-- ==== Sys2Proof/Word.lean ====
section
/-! DEFINITION. The word types of the BME280-WS CORE: what spec/00_scope.md section 5.1 treats as bits.
Nothing but names for widths stands here. -/

namespace Sys2Proof

/-- A byte: one calibration or raw-sample byte, one indicator level (00_scope.md section 5.1). -/
abbrev Byte := BitVec 8

/-- An 8-bit address of the host register space (10_state.md rule R12) or of the sensor (20_memory.md rule R52). -/
abbrev Addr := BitVec 8

/-- The widest host-visible register (10_state.md rule R12). -/
abbrev Word := BitVec 32

/-- A 64-bit intermediate of the pressure formula, or the bits of the running sum (rules R6, R24). -/
abbrev DWord := BitVec 64

/-- One host command word `HW` (30_encoding.md rule R70). -/
abbrev CmdWord := BitVec 42

/-- One response word `RSP` (30_encoding.md rule R75). -/
abbrev RspWord := BitVec 35

end Sys2Proof
end

