-- ==== Sys2Proof/Syntax.lean ====
section
/-! DEFINITION. The eighteen instructions of the host command port (30_encoding.md rule R74): the sixteen
EXEC operations and the two register transactions, one constructor for each row of spec/opcode_table.json,
in the table's order. -/

namespace Sys2Proof

/-- An instruction of the host port. An EXEC operation has no operand in the word: "every operand is taken
from the registers named in the operation's rule" (rule R72). The ignored field `d` of the X and R formats
is no part of the instruction (rules R72, R73, U17). -/
inductive Instr where
  /-- NOP (rule R155) -/
  | nop
  /-- LDCAL: parse the calibration blocks (rule R91) -/
  | ldcal
  /-- UNPACK: raw-sample block to RawSample (rule R92) -/
  | unpack
  /-- COMPT: temperature compensation (rule R93) -/
  | compt
  /-- COMPP: pressure compensation (rule R94) -/
  | compp
  /-- COMPH: humidity compensation (rule R95) -/
  | comph
  /-- RDALL: read and compensate one sample (rule R96) -/
  | rdall
  /-- WPUSH: push the current sample (rule R112) -/
  | wpush
  /-- WPOP: remove the oldest sample (rule R113) -/
  | wpop
  /-- WAVG: moving average (rule R114) -/
  | wavg
  /-- WUPD: the window-maintenance policy (rule R115) -/
  | wupd
  /-- FSTEP: one step of the control machine (rule R126) -/
  | fstep
  /-- ECONS: read and clear the edge flag (rule R130) -/
  | econs
  /-- INIT: read and parse the calibration (rule R141) -/
  | init
  /-- POLL: one pass of the main loop (rule R142) -/
  | poll
  /-- TICKSEQ: the full step of one tick (rule R143) -/
  | tickseq
  /-- WR: write `data` to the register at `addr` (rule R156) -/
  | wr (addr : Addr) (data : Word)
  /-- RD: read the register at `addr` (rule R157) -/
  | rd (addr : Addr)
  deriving DecidableEq, Repr

end Sys2Proof
end

