-- ==== Sys2Proof/Decode.lean ====
section
/-! DEFINITION. From a 42-bit command word to an instruction and back (spec/30_encoding.md rules R70 to R76):
the fields, the opcode map as one table, the decoder, which refuses an illegal word by name, and the encoder. -/

namespace Sys2Proof

/-- `HW[41:40]`, the format selector (rule R70). -/
def fieldKind (w : CmdWord) : BitVec 2 := w.extractLsb' 40 2

/-- `HW[39:32]`: the operation code of an EXEC word, the register address of a WR or RD word (rule R70). -/
def fieldA (w : CmdWord) : BitVec 8 := w.extractLsb' 32 8

/-- `HW[31:0]`: the data of a WR word, ignored in the other formats (rules R70, R72, R73). -/
def fieldD (w : CmdWord) : Word := w.extractLsb' 0 32

/-- Why a word is illegal (rule R76). There are no other illegal words. -/
inductive Illegal where
  /-- `kind = 0b11`, reserved. -/
  | reservedKind
  /-- An X-format word whose operation code is none of the sixteen of rule R74. -/
  | unlistedOp (op : BitVec 8)
  deriving DecidableEq, Repr

/-- The opcode map of rule R74. -/
def opcodeTable : List (BitVec 8 × Instr) :=
  [ (0x00, .nop),   (0x01, .ldcal), (0x02, .unpack), (0x03, .compt), (0x04, .compp), (0x05, .comph), (0x06, .rdall),
    (0x10, .wpush), (0x11, .wpop),  (0x12, .wavg),   (0x13, .wupd),
    (0x20, .fstep), (0x21, .econs),
    (0x30, .init),  (0x31, .poll),  (0x32, .tickseq) ]

/-- The instruction an operation code stands for, if it is one of the sixteen (rule R74). -/
def decodeOp (op : BitVec 8) : Option Instr := (opcodeTable.find? (fun row => row.1 == op)).map (·.2)

/-- The decoder: total on the 2^42 words, refusing an illegal one by name (rules R71 to R76). -/
def decode (w : CmdWord) : Except Illegal Instr :=
  if fieldKind w = 0b00 then
    match decodeOp (fieldA w) with
    | some i => .ok i
    | none   => .error (.unlistedOp (fieldA w))
  else if fieldKind w = 0b01 then .ok (.wr (fieldA w) (fieldD w))
  else if fieldKind w = 0b10 then .ok (.rd (fieldA w))
  else .error .reservedKind

/-- The word `{kind, a, d}` (rule R70). -/
def packWord (kind : BitVec 2) (a : BitVec 8) (d : Word) : CmdWord := kind ++ a ++ d

/-- The encoder. The ignored field is written as 0, as rules R72 and R73 tell software to. -/
def encode : Instr → CmdWord
  | .nop          => packWord 0b00 0x00 0
  | .ldcal        => packWord 0b00 0x01 0
  | .unpack       => packWord 0b00 0x02 0
  | .compt        => packWord 0b00 0x03 0
  | .compp        => packWord 0b00 0x04 0
  | .comph        => packWord 0b00 0x05 0
  | .rdall        => packWord 0b00 0x06 0
  | .wpush        => packWord 0b00 0x10 0
  | .wpop         => packWord 0b00 0x11 0
  | .wavg         => packWord 0b00 0x12 0
  | .wupd         => packWord 0b00 0x13 0
  | .fstep        => packWord 0b00 0x20 0
  | .econs        => packWord 0b00 0x21 0
  | .init         => packWord 0b00 0x30 0
  | .poll         => packWord 0b00 0x31 0
  | .tickseq      => packWord 0b00 0x32 0
  | .wr addr data => packWord 0b01 addr data
  | .rd addr      => packWord 0b10 addr 0

/-- The command word whose bits, numbered as spec/opcode_table.json numbers them, are the low `nbits` bits of
`w`. The hardware takes the word whole on its host port (rule R70), so no byte order comes in. -/
def tableWord (nbits w : Nat) : CmdWord := BitVec.ofNat 42 (w % 2 ^ nbits)

/-- What the decoder reads from an instruction given by its bits. A number with a bit at or above 42 is no
command word and is refused (log entry 13). -/
def decodeTableWord (nbits w : Nat) : Option Instr :=
  if w % 2 ^ nbits < 2 ^ 42 then (decode (tableWord nbits w)).toOption else none

end Sys2Proof
end

