-- ==== Sys2Proof/Config.lean ====
section
/-! DEFINITION. What an implementation of the CORE fixes: the constants of 00_scope.md rule R4, the open
parameters of rule R5 as a record, the plain data types several components share, and the free values
that a reset event leaves in the registers whose reset value the spec does not give (rule R42, U8). -/

namespace Sys2Proof

/-- CalibrationData: the eighteen coefficient registers with the widths of the table of 10_state.md rule R14.
Which of them are signed is said where they are used (Machine/Operands.lean, Machine/Compensation.lean). -/
structure CalibrationData where
  t1 : BitVec 16
  t2 : BitVec 16
  t3 : BitVec 16
  p1 : BitVec 16
  p2 : BitVec 16
  p3 : BitVec 16
  p4 : BitVec 16
  p5 : BitVec 16
  p6 : BitVec 16
  p7 : BitVec 16
  p8 : BitVec 16
  p9 : BitVec 16
  h1 : BitVec 8
  h2 : BitVec 16
  h3 : BitVec 8
  h4 : BitVec 16
  h5 : BitVec 16
  h6 : BitVec 8
  deriving DecidableEq, Repr, Inhabited

/-- One CompensatedSample in its integer forms: a slot of the window (10_state.md rule R23), and the sample
that WPUSH pushes and WPOP returns. -/
structure Sample where
  temp  : Word
  press : Word
  hum   : Word
  deriving DecidableEq, Repr, Inhabited

namespace Config

/-- The FSM threshold, 24.0 °C in hundredths of a degree (rule R4). -/
abbrev thresholdCdeg : Int := 2400

/-- The upper clamp of the humidity intermediate (rule R4). -/
abbrev humClampMax : Word := 419430400

/-- The offset of the pressure working variable (rule R4). -/
abbrev pOffset : DWord := 128000

/-- The length in bytes of the first calibration block (rule R4). -/
abbrev cal1Len : Nat := 26

/-- The length in bytes of the second calibration block (rule R4). -/
abbrev cal2Len : Nat := 7

/-- The length in bytes of the raw-sample block (rule R4). -/
abbrev dataLen : Nat := 8

/-- Divisor of the float Celsius form (rule R4). -/
abbrev divT : Nat := 100

/-- Divisor of the hPa float form (rule R4). -/
abbrev divP : Nat := 25600

/-- Divisor of the float %RH form (rule R4). -/
abbrev divH : Nat := 1024

/-- The parameters the document leaves open (rule R5). The spec lets "the model take it as an argument":
they are a field of the state that no step changes, so a statement about every state is a statement about
every choice of them (log entry 3). -/
structure Params where
  /-- `CAL1_ADDR` -/
  cal1Addr        : Addr
  /-- `CAL2_ADDR` -/
  cal2Addr        : Addr
  /-- `DATA_ADDR` -/
  dataAddr        : Addr
  /-- `H45_SIGNED_MSB` -/
  h45SignedMsb    : Bool
  /-- `HAS_INDICATOR` -/
  hasIndicator    : Bool
  /-- `BRIGHT_NORMAL` -/
  brightNormal    : Byte
  /-- `BRIGHT_EMERGENCY` -/
  brightEmergency : Byte
  /-- `BRIGHT_USER` -/
  brightUser      : Byte
  /-- `HALF_NORMAL` -/
  halfNormal      : Byte
  /-- `HALF_EMERGENCY` -/
  halfEmergency   : Byte
  deriving DecidableEq, Repr

/-- The "value or default" column of rule R5. -/
def defaultParams : Params where
  cal1Addr        := 0x88
  cal2Addr        := 0xE1
  dataAddr        := 0xF7
  h45SignedMsb    := false
  hasIndicator    := true
  brightNormal    := 64
  brightEmergency := 255
  brightUser      := 128
  halfNormal      := 4
  halfEmergency   := 1

/-- The registers to which 10_state.md rule R42 gives no reset value. -/
structure Unspecified where
  coef    : CalibrationData
  rawP    : BitVec 20
  rawT    : BitVec 20
  rawH    : BitVec 16
  tFine   : Word
  sample  : Sample
  avg     : Word
  popped  : Sample
  buf     : Vector Sample 60
  cb1     : Vector Byte 26
  cb2     : Vector Byte 7
  dbuf    : Vector Byte 8
  deriving DecidableEq, Repr, Inhabited

/-- FREE VALUE. What the `n`-th reset event of a run leaves in those registers: "a model must not assume 0
for an unspecified register: it treats the first read of one … as `any value`" (rule R42, U8 of
93_implementation_defined.md; log entry 2). -/
opaque unspecified : Nat → Unspecified

end Config
end Sys2Proof
end

