-- ==== Sys2Proof/Machine/State.lean ====
section
/-! DEFINITION. The state of the CORE (spec/10_state.md): the registers of rule R40 and the window slots of rule
R23, grouped by the component that owns them, and beside them the environment the CORE talks to, as plain data.
Rule R43 says there is no state beyond the first. -/

namespace Sys2Proof.Machine

open Sys2Proof

/-- The status codes of 60_exceptions.md rule R166; codes 6 and 7 are never produced, so they have no name. -/
inductive Status where
  | ok | transportError | calibrationError | full | empty | illegalCommand
  deriving DecidableEq, Repr

/-- The two fatal errors (60_exceptions.md rules R165, R168). -/
inductive Fatal where
  | calibrationError | empty
  deriving DecidableEq, Repr

/-- The three states of the control machine (42_fsm.md rule R125). The code 3 never occurs (10_state.md rule
R27), so it has no name. -/
inductive FsmState where
  | normal | emergency | user
  deriving DecidableEq, Repr

/-- The kinds of a log event (42_fsm.md rule R133). -/
inductive LogKind where
  | info | warning | stateTransition | userFacing
  deriving DecidableEq, Repr

/-- The site tags of a log event (42_fsm.md rule R133). -/
inductive Site where
  | infoSample | warnTemp | transition | userAvg | warnFull | warnXport
  deriving DecidableEq, Repr

/-- One log event as it leaves on the logger port (42_fsm.md rule R133). -/
structure LogRecord where
  kind : BitVec 2
  site : BitVec 3
  f0   : Word
  f1   : Word
  f2   : Word
  deriving DecidableEq, Repr

/-- What leaves the CORE (60_exceptions.md rule R182): a transport request, a log event, an indicator level, a
response word. -/
inductive Event where
  | xportRead (addr : Addr) (n : Nat)
  | emit (r : LogRecord)
  | setLevel (v : Byte)
  | response (rsp : RspWord)
  deriving DecidableEq, Repr

/-- The transport's answer to a request for `n` bytes: exactly `n` bytes or a failure (20_memory.md rule R52). -/
inductive Answer (n : Nat) where
  | ok (bytes : Vector Byte n)
  | err
  deriving DecidableEq, Repr

/-- What reaches the CORE from outside, or changes what its environment will answer, between two atomic
actions (10_state.md rule R10, 30_encoding.md rule R78; log entry 4). -/
inductive Input where
  /-- The host presents a command word. -/
  | command (w : CmdWord)
  /-- An edge-set event on `edge_in` (42_fsm.md rule R131). -/
  | edge
  /-- A reset event on `rst` (70_reset_and_hazards.md rule R190). -/
  | reset
  /-- From here on `NowTick()` answers `v`. -/
  | tick (v : Word)
  /-- The transport will answer one more read of the 26-byte calibration block. -/
  | answerCal1 (a : Answer 26)
  /-- The transport will answer one more read of the 7-byte calibration block. -/
  | answerCal2 (a : Answer 7)
  /-- The transport will answer one more read of the 8-byte raw-sample block. -/
  | answerData (a : Answer 8)
  deriving DecidableEq, Repr

/-- The registers of the CompensationEngine. -/
structure Compensation where
  /-- `CALV` (R15) -/
  calv   : Bool
  /-- `T1` .. `H6` (R14) -/
  coef   : CalibrationData
  /-- `RAW_P` (R17) -/
  rawP   : BitVec 20
  /-- `RAW_T` (R17) -/
  rawT   : BitVec 20
  /-- `RAW_H` (R17) -/
  rawH   : BitVec 16
  /-- `T_FINE` (R18) -/
  tFine  : Word
  /-- `TEMP`, `PRESS`, `HUM`, the latest compensated sample (R19) -/
  sample : Sample
  /-- `CB1LEN` (R32) -/
  cb1len : Byte
  /-- `CB2LEN` (R32) -/
  cb2len : Byte
  /-- `CB1[0..25]` (R32) -/
  cb1    : Vector Byte 26
  /-- `CB2[0..6]` (R32) -/
  cb2    : Vector Byte 7
  /-- `DBUF[0..7]` (R33) -/
  dbuf   : Vector Byte 8
  deriving DecidableEq, Repr

/-- The registers of the MovingAverageWindow. The types carry the ranges of rules R23 and R25(a). -/
structure Window where
  /-- `buf[0..59]` (R23) -/
  buf    : Vector Sample 60
  /-- `WHEAD`, the slot the next push writes (R23) -/
  whead  : Fin 60
  /-- `WTAIL`, the slot of the oldest sample (R23) -/
  wtail  : Fin 60
  /-- `WLEN` (R23) -/
  wlen   : Fin 61
  /-- `WSUM`, a binary64 bit pattern (R24) -/
  wsum   : DWord
  /-- `WIDX` (R26) -/
  widx   : BitVec 6
  /-- `AVG`, a binary32 bit pattern (R21) -/
  avg    : Word
  /-- `AVGV` (R21) -/
  avgv   : Bool
  /-- `POP_TEMP`, `POP_PRESS`, `POP_HUM` (R22) -/
  popped : Sample
  deriving DecidableEq, Repr

/-- The registers of the ControlFSM, the edge flag and the indicator latch. -/
structure Control where
  /-- `FSM` (R27) -/
  fsm      : FsmState
  /-- `SW` (R28) -/
  sw       : Bool
  /-- `EDGE` (R29) -/
  edge     : Bool
  /-- `LEVEL` (R30) -/
  level    : Byte
  /-- `BLINKCNT` (R30) -/
  blinkcnt : Byte
  deriving DecidableEq, Repr

/-- The registers of the host port and the scheduler. -/
structure Port where
  /-- `HALT` (R35) -/
  halt      : Bool
  /-- `CAUSE[15:8]` = OP (R35) -/
  causeOp   : BitVec 8
  /-- `CAUSE[2:0]` = CODE (R35); `ok` is "no fatal error yet" -/
  causeCode : Status
  /-- `LAST` (R34) -/
  last      : Status
  /-- `LASTTICK` (R31) -/
  lasttick  : Word
  deriving DecidableEq, Repr

/-- THE MODEL'S OWN, not the spec's: everything outside the CORE that a step can see or show (log entries 4 to
10), and the counter of the free values. -/
structure Env where
  /-- What will arrive, first to arrive first. -/
  inputs  : List Input
  /-- The value the external tick counter shows. -/
  tick    : Word
  /-- The transport's answers to the coming reads of the 26-byte block; none left: it never answers. -/
  cal1    : List (Answer 26)
  /-- The transport's answers to the coming reads of the 7-byte block. -/
  cal2    : List (Answer 7)
  /-- The transport's answers to the coming reads of the 8-byte block. -/
  data    : List (Answer 8)
  /-- What has left the CORE, oldest first. -/
  trace   : List Event
  /-- An operation waits for a transport that never answers (U9, 70_reset_and_hazards.md rule R210). -/
  stalled : Bool
  /-- How many reset events there have been: the counter `Config.unspecified` is applied to. -/
  resets  : Nat
  deriving DecidableEq, Repr

/-- The whole machine. -/
structure State where
  cfg  : Config.Params
  comp : Compensation
  win  : Window
  ctl  : Control
  port : Port
  env  : Env
  deriving DecidableEq, Repr

/-- Why a step could stop with a fault: there is no such reason. Every error of 60_exceptions.md rule R165 ends
the command with a status code and the machine has a next state, the halted one included (rule R158); "no
encoding whose behaviour is undefined" (rule R76). The type has no constructor, so no step can fault: safe. -/
inductive Fault
  deriving DecidableEq, Repr

/-- Why a step could be refused. -/
inductive Refusal where
  /-- An instruction the model gives no meaning; raised by an arm of `exec` alone, and by none of them now. Safe:
  the model stops where the hardware goes on. -/
  | notModelled (mnemonic : String)
  deriving DecidableEq, Repr

/-- DESIGN CHOICE (log entry 1): the value `State.reset` names for a sample register the spec gives no reset value. -/
def zeroSample : Sample := ⟨0, 0, 0⟩

/-- DESIGN CHOICE (log entry 1): the value `State.reset` names for the coefficients. -/
def zeroCoef : CalibrationData := ⟨0, 0, 0, 0, 0, 0, 0, 0, 0, 0, 0, 0, 0, 0, 0, 0, 0, 0⟩

/-- The machine right after reset (rules R42, R190). The registers rule R42 calls unspecified hold 0 (DESIGN
CHOICE, log entry 1); the parameters are the defaults of rule R5 (log entry 3); nothing has arrived or left. -/
def State.reset : State where
  cfg := Config.defaultParams
  comp :=
    { calv := false, coef := zeroCoef, rawP := 0, rawT := 0, rawH := 0, tFine := 0, sample := zeroSample,
      cb1len := 0, cb2len := 0, cb1 := Vector.replicate 26 0, cb2 := Vector.replicate 7 0,
      dbuf := Vector.replicate 8 0 }
  win :=
    { buf := Vector.replicate 60 zeroSample, whead := 0, wtail := 0, wlen := 0, wsum := 0, widx := 0,
      avg := 0, avgv := false, popped := zeroSample }
  ctl := { fsm := .normal, sw := false, edge := false, level := 0, blinkcnt := 0 }
  port := { halt := false, causeOp := 0, causeCode := .ok, last := .ok, lasttick := 0 }
  env :=
    { inputs := [], tick := 0, cal1 := [], cal2 := [], data := [], trace := [], stalled := false, resets := 0 }

end Sys2Proof.Machine
end

