-- ==== Sys2Proof/Machine/Flags.lean ====
section
/-! DEFINITION. Every code, packing and flag computation of the spec: the status codes (60_exceptions.md rule
R166), the FSM codes (10_state.md rule R27), the log codes (42_fsm.md rule R133), the words STATUS, CAUSE and
IND, the response word, and the threshold flag `hot`. -/

namespace Sys2Proof.Machine

open Sys2Proof

/-- The 3-bit status code (rule R166). -/
def Status.code : Status → BitVec 3
  | .ok => 0
  | .transportError => 1
  | .calibrationError => 2
  | .full => 3
  | .empty => 4
  | .illegalCommand => 5

/-- The status a fatal error reports (rules R165, R168). -/
def Fatal.status : Fatal → Status
  | .calibrationError => .calibrationError
  | .empty => .empty

/-- The 2-bit code of an FSM state (rule R27). -/
def FsmState.code : FsmState → BitVec 2
  | .normal => 0
  | .emergency => 1
  | .user => 2

/-- The 2-bit code of a log kind (rule R133). -/
def LogKind.code : LogKind → BitVec 2
  | .info => 0
  | .warning => 1
  | .stateTransition => 2
  | .userFacing => 3

/-- The 3-bit code of a log site (rule R133). -/
def Site.code : Site → BitVec 3
  | .infoSample => 0
  | .warnTemp => 1
  | .transition => 2
  | .userAvg => 3
  | .warnFull => 4
  | .warnXport => 5

/-- The record of a log event (rule R133). -/
def logRecord (kind : LogKind) (site : Site) (f0 f1 f2 : Word) : LogRecord := ⟨kind.code, site.code, f0, f1, f2⟩

/-- A flag as a 32-bit field (rules R12, R133). -/
def flagWord (b : Bool) : Word := if b then 1 else 0

/-- STATUS, the packing of rule R13: bits 31..11 zero, 10..8 LAST, 7 zero, 6..5 FSM, 4 EDGE, 3 SW, 2 AVGV,
1 CALV, 0 HALT. -/
def statusWord (s : State) : Word :=
  (0 : BitVec 21) ++ s.port.last.code ++ (0 : BitVec 1) ++ s.ctl.fsm.code ++ BitVec.ofBool s.ctl.edge
    ++ BitVec.ofBool s.ctl.sw ++ BitVec.ofBool s.win.avgv ++ BitVec.ofBool s.comp.calv ++ BitVec.ofBool s.port.halt

/-- CAUSE: OP in bits 15..8, CODE in bits 2..0, all other bits 0 (rule R35). -/
def causeWord (s : State) : Word := (0 : BitVec 16) ++ s.port.causeOp ++ (0 : BitVec 5) ++ s.port.causeCode.code

/-- IND: BLINKCNT in bits 15..8, LEVEL in bits 7..0 (rules R30, R40). -/
def indWord (s : State) : Word := (0 : BitVec 16) ++ s.ctl.blinkcnt ++ s.ctl.level

/-- The response word: status in bits 34..32, data in bits 31..0 (30_encoding.md rule R75). -/
def rspWord (st : Status) (data : Word) : RspWord := st.code ++ data

/-- `hot`: the sample's temperature is at or above 24.0 °C, as the signed integer comparison rule R128 tells a
model to use. -/
def hot (temp : Word) : Bool := decide (Config.thresholdCdeg ≤ temp.toInt)

end Sys2Proof.Machine
end

