-- ==== Sys2Proof/Machine/Float.lean ====
section
/-! DEFINITION. The floating-point primitives of spec/00_scope.md section 5.3 and rule R7: IEEE 754 binary32 and
binary64 bit patterns, round to nearest with ties to even, one rounding of an exact quotient. Everything is
exact arithmetic on whole numbers until the one rounding. -/

namespace Sys2Proof.Machine

open Sys2Proof

/-- An exact quotient `num / den`, the argument of a rounding. -/
structure Frac where
  num : Int
  den : Nat
  deriving DecidableEq, Repr

/-- The exact sum of two quotients. -/
def Frac.add (a b : Frac) : Frac := ⟨a.num * b.den + b.num * a.den, a.den * b.den⟩

/-- The exact difference of two quotients. -/
def Frac.sub (a b : Frac) : Frac := ⟨a.num * b.den - b.num * a.den, a.den * b.den⟩

/-- The exact quotient by a whole number. -/
def Frac.divNat (a : Frac) (n : Nat) : Frac := ⟨a.num, a.den * n⟩

/-- An IEEE 754 format: the width of the fraction field and the power of two `2^-scale` that is the smallest
subnormal; `expMax` is the exponent field of infinity. -/
structure Format where
  frac   : Nat
  scale  : Nat
  expMax : Nat
  deriving DecidableEq, Repr

/-- binary32: 1 + 8 + 23 bits. -/
def binary32 : Format := ⟨23, 149, 255⟩

/-- binary64: 1 + 11 + 52 bits. -/
def binary64 : Format := ⟨52, 1074, 2047⟩

/-- `a / b` rounded to the nearest whole number, a tie to the even one. -/
def roundHalfEven (a b : Nat) : Nat :=
  if 2 * (a % b) < b then a / b
  else if b < 2 * (a % b) then a / b + 1
  else a / b + (a / b) % 2

/-- The bits below the sign of the value of format `f` nearest to `n / d`. With the quotient counted in smallest
subnormals, `t` is how many low bits the significand cannot keep; the exponent field and the hidden bit then
come out of one sum, a carry out of the significand included. A value above the largest finite one becomes
infinity (never reached, rule R8; log entry 11). -/
def roundMagnitude (f : Format) (n d : Nat) : Nat :=
  let units := n * 2 ^ f.scale
  let t := Nat.log2 (units / d) - f.frac
  min (t * 2 ^ f.frac + roundHalfEven units (d * 2 ^ t)) (f.expMax * 2 ^ f.frac)

/-- The value of the bits below the sign, counted in smallest subnormals. -/
def magnitudeUnits (f : Format) (p : Nat) : Nat :=
  if p / 2 ^ f.frac = 0 then p else (2 ^ f.frac + p % 2 ^ f.frac) * 2 ^ (p / 2 ^ f.frac - 1)

/-- The exact value of a pattern given as its sign and the bits below it. -/
def valueOf (f : Format) (neg : Bool) (p : Nat) : Frac :=
  ⟨if neg then -(magnitudeUnits f p : Int) else magnitudeUnits f p, 2 ^ f.scale⟩

/-- `rnd32(q)`: the binary32 pattern nearest to `q`. -/
def rnd32 (q : Frac) : Word :=
  BitVec.ofBool (decide (q.num < 0)) ++ BitVec.ofNat 31 (roundMagnitude binary32 q.num.natAbs q.den)

/-- `rnd64(q)`: the binary64 pattern nearest to `q`. -/
def rnd64 (q : Frac) : DWord :=
  BitVec.ofBool (decide (q.num < 0)) ++ BitVec.ofNat 63 (roundMagnitude binary64 q.num.natAbs q.den)

/-- The exact value of a binary32 pattern; as `f64(x)` is "the binary64 value equal to the binary32 value `x`
(always exact)", it is the value of `f64(x)` too. -/
def value32 (x : Word) : Frac := valueOf binary32 x.msb (x.toNat % 2 ^ 31)

/-- The exact value of a binary64 pattern. -/
def value64 (x : DWord) : Frac := valueOf binary64 x.msb (x.toNat % 2 ^ 63)

/-- `cdeg_f32(T) = rnd32(T / 100)`, the float Celsius form. -/
def cdegF32 (t : Word) : Word := rnd32 ⟨t.toInt, Config.divT⟩

/-- `q8_hpa_f32(P) = rnd32(P / 25600)`, the hPa float form. -/
def q8HpaF32 (p : Word) : Word := rnd32 ⟨p.toNat, Config.divP⟩

/-- `q10_rh_f32(H) = rnd32(H / 1024)`, the float %RH form. -/
def q10RhF32 (h : Word) : Word := rnd32 ⟨h.toNat, Config.divH⟩

/-- `rnd64(sum + f64(x))` (41_window.md rule R112). -/
def sumAdd (sum : DWord) (x : Word) : DWord := rnd64 ((value64 sum).add (value32 x))

/-- `rnd64(sum - f64(x))` (41_window.md rule R113). -/
def sumSub (sum : DWord) (x : Word) : DWord := rnd64 ((value64 sum).sub (value32 x))

/-- `rnd32(rnd64(sum / n))` (41_window.md rule R114). -/
def sumDiv (sum : DWord) (n : Nat) : Word := rnd32 (value64 (rnd64 ((value64 sum).divNat n)))

end Sys2Proof.Machine
end

