-- ==== Sys2Proof/Machine/Operands.lean ====
section
/-! DEFINITION. The operand forms of the CORE: the register map of spec/10_state.md rule R40, the value a read
gives (rules R12, R41, 44_host_port.md rule R157) and what a write does (rule R156). -/

namespace Sys2Proof.Machine

open Sys2Proof

/-- The registers of the map of rule R40. -/
inductive Reg where
  | status | cause | lasttick | ind | sw
  | rawP | rawT | rawH | tFine | temp | press | hum | tempF | pressF | humF
  | avg | popTemp | popPress | popHum
  | whead | wtail | wlen | wsumLo | wsumHi | widx | wslotTemp | wslotPress | wslotHum
  | t1 | t2 | t3 | p1 | p2 | p3 | p4 | p5 | p6 | p7 | p8 | p9 | h1 | h2 | h3 | h4 | h5 | h6
  | cb1len | cb2len
  | cb1 (i : Fin 26) | cb2 (i : Fin 7) | dbuf (i : Fin 8)
  deriving DecidableEq, Repr

/-- The registers that have an address to themselves, as the map of rule R40 lists them. -/
def regTable : List (Addr × Reg) :=
  [ (0x00, .status), (0x01, .cause), (0x02, .lasttick), (0x03, .ind), (0x04, .sw),
    (0x10, .rawP), (0x11, .rawT), (0x12, .rawH), (0x13, .tFine), (0x14, .temp), (0x15, .press), (0x16, .hum),
    (0x17, .tempF), (0x18, .pressF), (0x19, .humF), (0x1A, .avg), (0x1B, .popTemp), (0x1C, .popPress),
    (0x1D, .popHum),
    (0x20, .whead), (0x21, .wtail), (0x22, .wlen), (0x23, .wsumLo), (0x24, .wsumHi), (0x25, .widx),
    (0x26, .wslotTemp), (0x27, .wslotPress), (0x28, .wslotHum),
    (0x30, .t1), (0x31, .t2), (0x32, .t3), (0x33, .p1), (0x34, .p2), (0x35, .p3), (0x36, .p4), (0x37, .p5),
    (0x38, .p6), (0x39, .p7), (0x3A, .p8), (0x3B, .p9), (0x3C, .h1), (0x3D, .h2), (0x3E, .h3), (0x3F, .h4),
    (0x40, .h5), (0x41, .h6),
    (0x50, .cb1len), (0x51, .cb2len) ]

/-- The register at an address; `none` is an unmapped address (rules R40, R41). The three byte buffers lie at
0x60 + i, 0x80 + i and 0x90 + i. -/
def regAt (a : Addr) : Option Reg :=
  if h : 0x60 ≤ a.toNat ∧ a.toNat < 0x60 + 26 then some (.cb1 ⟨a.toNat - 0x60, by omega⟩)
  else if h : 0x80 ≤ a.toNat ∧ a.toNat < 0x80 + 7 then some (.cb2 ⟨a.toNat - 0x80, by omega⟩)
  else if h : 0x90 ≤ a.toNat ∧ a.toNat < 0x90 + 8 then some (.dbuf ⟨a.toNat - 0x90, by omega⟩)
  else (regTable.find? (fun row => row.1 == a)).map (·.2)

/-- The slot `WIDX` selects; `none` when `WIDX` is 60 or more (rule R26). -/
def selectedSlot (w : Window) : Option Sample := w.buf[w.widx.toNat]?

/-- An unsigned register narrower than 32 bits reads zero-extended (rule R12). -/
def readU {n : Nat} (v : BitVec n) : Word := v.setWidth 32

/-- A signed register narrower than 32 bits reads sign-extended (rule R12). -/
def readS {n : Nat} (v : BitVec n) : Word := v.signExtend 32

/-- The value of a register as the host reads it (rules R12, R13, R20, R24, R26, R30, R35, R40, R157). -/
def readReg (s : State) : Reg → Word
  | .status     => statusWord s
  | .cause      => causeWord s
  | .lasttick   => s.port.lasttick
  | .ind        => indWord s
  | .sw         => flagWord s.ctl.sw
  | .rawP       => readU s.comp.rawP
  | .rawT       => readU s.comp.rawT
  | .rawH       => readU s.comp.rawH
  | .tFine      => s.comp.tFine
  | .temp       => s.comp.sample.temp
  | .press      => s.comp.sample.press
  | .hum        => s.comp.sample.hum
  | .tempF      => cdegF32 s.comp.sample.temp
  | .pressF     => q8HpaF32 s.comp.sample.press
  | .humF       => q10RhF32 s.comp.sample.hum
  | .avg        => s.win.avg
  | .popTemp    => s.win.popped.temp
  | .popPress   => s.win.popped.press
  | .popHum     => s.win.popped.hum
  | .whead      => BitVec.ofNat 32 s.win.whead.val
  | .wtail      => BitVec.ofNat 32 s.win.wtail.val
  | .wlen       => BitVec.ofNat 32 s.win.wlen.val
  | .wsumLo     => s.win.wsum.extractLsb' 0 32
  | .wsumHi     => s.win.wsum.extractLsb' 32 32
  | .widx       => readU s.win.widx
  | .wslotTemp  => ((selectedSlot s.win).map (·.temp)).getD 0
  | .wslotPress => ((selectedSlot s.win).map (·.press)).getD 0
  | .wslotHum   => ((selectedSlot s.win).map (·.hum)).getD 0
  | .t1         => readU s.comp.coef.t1
  | .t2         => readS s.comp.coef.t2
  | .t3         => readS s.comp.coef.t3
  | .p1         => readU s.comp.coef.p1
  | .p2         => readS s.comp.coef.p2
  | .p3         => readS s.comp.coef.p3
  | .p4         => readS s.comp.coef.p4
  | .p5         => readS s.comp.coef.p5
  | .p6         => readS s.comp.coef.p6
  | .p7         => readS s.comp.coef.p7
  | .p8         => readS s.comp.coef.p8
  | .p9         => readS s.comp.coef.p9
  | .h1         => readU s.comp.coef.h1
  | .h2         => readS s.comp.coef.h2
  | .h3         => readU s.comp.coef.h3
  | .h4         => readS s.comp.coef.h4
  | .h5         => readS s.comp.coef.h5
  | .h6         => readS s.comp.coef.h6
  | .cb1len     => readU s.comp.cb1len
  | .cb2len     => readU s.comp.cb2len
  | .cb1 i      => readU s.comp.cb1[i]
  | .cb2 i      => readU s.comp.cb2[i]
  | .dbuf i     => readU s.comp.dbuf[i]

/-- `R[a]`: the register at `a`, 0 where nothing is mapped (rules R41, R157). -/
def readAddr (s : State) (a : Addr) : Word := ((regAt a).map (readReg s)).getD 0

/-- A write to a register: a host-writable one keeps the low bits of the data, a read-only one ignores it
(rules R41, R156). -/
def writeReg (s : State) (d : Word) : Reg → State
  | .sw      => { s with ctl.sw := d.getLsbD 0 }
  | .rawP    => { s with comp.rawP := d.setWidth 20 }
  | .rawT    => { s with comp.rawT := d.setWidth 20 }
  | .rawH    => { s with comp.rawH := d.setWidth 16 }
  | .tFine   => { s with comp.tFine := d }
  | .temp    => { s with comp.sample.temp := d }
  | .press   => { s with comp.sample.press := d }
  | .hum     => { s with comp.sample.hum := d }
  | .widx    => { s with win.widx := d.setWidth 6 }
  | .cb1len  => { s with comp.cb1len := d.setWidth 8 }
  | .cb2len  => { s with comp.cb2len := d.setWidth 8 }
  | .cb1 i   => { s with comp.cb1 := s.comp.cb1.set i (d.setWidth 8) }
  | .cb2 i   => { s with comp.cb2 := s.comp.cb2.set i (d.setWidth 8) }
  | .dbuf i  => { s with comp.dbuf := s.comp.dbuf.set i (d.setWidth 8) }
  | .status | .cause | .lasttick | .ind | .tempF | .pressF | .humF | .avg | .popTemp | .popPress | .popHum
  | .whead | .wtail | .wlen | .wsumLo | .wsumHi | .wslotTemp | .wslotPress | .wslotHum
  | .t1 | .t2 | .t3 | .p1 | .p2 | .p3 | .p4 | .p5 | .p6 | .p7 | .p8 | .p9 | .h1 | .h2 | .h3 | .h4 | .h5 | .h6 => s

/-- `R[a] <- d`: nothing where no register is mapped (rules R41, R156). -/
def writeAddr (s : State) (a : Addr) (d : Word) : State :=
  match regAt a with
  | some r => writeReg s d r
  | none   => s

end Sys2Proof.Machine
end

