-- ==== Sys2Proof/Machine/Ops.lean ====
section
/-! DEFINITION. The named operations every meaning is built from: what leaves the CORE, the transport reads, how
an operation ends, taking a fatal error (60_exceptions.md rule R168), the reset event that alone leaves the halt
(70_reset_and_hazards.md rule R190), the edge-set event, the illegal word, and the frame of an EXEC command
(44_host_port.md rule R159). -/

namespace Sys2Proof.Machine

open Sys2Proof

/-! ### What leaves the CORE -/

/-- An event leaves the CORE, after all that left it before (rules R9, R65). -/
def put (e : Event) (s : State) : State := { s with env.trace := s.env.trace ++ [e] }

/-- Events leave the CORE in the order of the list (rules R9, R65). -/
def putAll (es : List Event) (s : State) : State := { s with env.trace := s.env.trace ++ es }

/-- `Emit(kind, site, fields)` (42_fsm.md rule R133). -/
def emit (kind : LogKind) (site : Site) (f0 f1 f2 : Word) (s : State) : State :=
  put (.emit (logRecord kind site f0 f1 f2)) s

/-- `respond (status, data)`: the one response word of a command (rules R75, R159). -/
def respond (st : Status) (data : Word) (s : State) : State := put (.response (rspWord st data)) s

/-! ### The transport (20_memory.md rule R52) -/

/-- `XportRead(CAL1_ADDR, 26)`: the request leaves, and the transport's answer is taken; `none` is a transport
that never answers (U9). -/
def readCal1 (s : State) : Option (Answer 26) × State :=
  (s.env.cal1.head?, put (.xportRead s.cfg.cal1Addr Config.cal1Len) { s with env.cal1 := s.env.cal1.tail })

/-- `XportRead(CAL2_ADDR, 7)`. -/
def readCal2 (s : State) : Option (Answer 7) × State :=
  (s.env.cal2.head?, put (.xportRead s.cfg.cal2Addr Config.cal2Len) { s with env.cal2 := s.env.cal2.tail })

/-- `XportRead(DATA_ADDR, 8)`. -/
def readData (s : State) : Option (Answer 8) × State :=
  (s.env.data.head?, put (.xportRead s.cfg.dataAddr Config.dataLen) { s with env.data := s.env.data.tail })

/-! ### How an operation ends -/

/-- How the pseudocode of an operation ends: `return <Status>`, `raise <error>`, or not at all (U9). -/
inductive Ending where
  | done (st : Status)
  | raised (e : Fatal)
  | stalled
  deriving DecidableEq, Repr

/-- The ending of an operation and the state it leaves. -/
abbrev Result := Ending × State

/-- `return st`. -/
def ret (st : Status) (s : State) : Result := (.done st, s)

/-- `raise e`: the operation stops here and what it wrote before stays (rules R168, R176). -/
def raise (e : Fatal) (s : State) : Result := (.raised e, s)

/-- The operation waits for ever (U9, rule R210). -/
def stall (s : State) : Result := (.stalled, s)

/-- `st <- do OP; k`: a sub-step of a composite operation; a `raise` inside it is the composite's `raise`
(43_scheduler.md rule R140). -/
def andThen (r : Result) (k : Status → State → Result) : Result :=
  match r with
  | (.done st, s)  => k st s
  | (.raised e, s) => (.raised e, s)
  | (.stalled, s)  => (.stalled, s)

/-! ### Fatal errors, reset, asynchronous events -/

/-- TAKING A FATAL ERROR (60_exceptions.md rule R168): `HALT <- 1`, `CAUSE <- {op, code}`, `LAST <- code`, and
nothing else. There is no vector, no handler and no saved state; `op` is the opcode of the host's EXEC command. -/
def takeFatal (op : BitVec 8) (e : Fatal) (s : State) : State :=
  { s with port.halt := true, port.causeOp := op, port.causeCode := e.status, port.last := e.status }

/-- THE RESET EVENT, the only way out of the halt (70_reset_and_hazards.md rules R190 to R192): every register at
the value of 10_state.md rule R42, the unspecified ones at free values (log entry 2). It emits nothing, and a
waiting operation is abandoned without response. The environment and the parameters lie outside it. -/
def resetEvent (s : State) : State :=
  let u := Config.unspecified s.env.resets
  { cfg  := s.cfg
    comp := { State.reset.comp with
      coef := u.coef, rawP := u.rawP, rawT := u.rawT, rawH := u.rawH, tFine := u.tFine, sample := u.sample,
      cb1 := u.cb1, cb2 := u.cb2, dbuf := u.dbuf }
    win  := { State.reset.win with buf := u.buf, avg := u.avg, popped := u.popped }
    ctl  := State.reset.ctl
    port := State.reset.port
    env  := { s.env with stalled := false, resets := s.env.resets + 1 } }

/-- THE EDGE-SET EVENT (42_fsm.md rule R131): `EDGE <- 1`, halted or not, and nothing else. -/
def edgeEvent (s : State) : State := { s with ctl.edge := true }

/-- AN ILLEGAL COMMAND WORD (30_encoding.md rule R76, 44_host_port.md rule R159): `LAST <- 5` unless halted; the
response is status 5, data 0. -/
def illegalCommand (s : State) : State :=
  if s.port.halt then respond .illegalCommand 0 s
  else respond .illegalCommand 0 { s with port.last := .illegalCommand }

/-! ### The frame of a command (44_host_port.md rule R159) -/

/-- A command refused because the CORE is halted: status `CAUSE.CODE`, data 0, no register changes (rule R158). -/
def refuseHalted (s : State) : State := respond s.port.causeCode 0 s

/-- What follows the pseudocode of an EXEC operation: a fatal error is taken, `LAST` takes the status, the
response goes out. An operation that waits for ever gets no response (U9). -/
def finish (op : BitVec 8) : Result → State
  | (.done st, s)  => respond st 0 { s with port.last := st }
  | (.raised e, s) => respond e.status 0 (takeFatal op e s)
  | (.stalled, s)  => { s with env.stalled := true }

/-- An EXEC command with opcode `op` whose pseudocode is `body` (rule R159). -/
def runExec (op : BitVec 8) (body : State → Result) (s : State) : Host.Outcome State Fault Refusal :=
  .next (if s.port.halt then refuseHalted s else finish op (body s))

end Sys2Proof.Machine
end

