-- ==== Sys2Proof/Machine/HostPort.lean ====
section
/-! DEFINITION. The host port's own transactions (spec/44_host_port.md): NOP, WR, RD. -/

namespace Sys2Proof.Machine

open Sys2Proof

/-- The pseudocode of NOP (rule R155). -/
def opNop (s : State) : Result := ret .ok s

/-- NOP, opcode 0x00 (rules R74, R155). -/
def execNop (s : State) : Host.Outcome State Fault Refusal := runExec 0x00 opNop s

/-- WR: refused while halted, else the write and status OK; `LAST` is not touched (rules R156, R158, R159). -/
def execWr (addr : Addr) (data : Word) (s : State) : Host.Outcome State Fault Refusal :=
  .next (if s.port.halt then refuseHalted s else respond .ok 0 (writeAddr s addr data))

/-- RD: the register's value with status OK, halted or not; no register changes (rules R157, R158, R159). -/
def execRd (addr : Addr) (s : State) : Host.Outcome State Fault Refusal :=
  .next (respond .ok (readAddr s addr) s)

end Sys2Proof.Machine
end

