-- ==== Sys2Proof/Machine/Compensation.lean ====
section
/-! DEFINITION. The CompensationEngine (spec/40_compensation.md): LDCAL, UNPACK, COMPT, COMPP, COMPH, RDALL. The
formulas are written on two's complement words, whose `+`, `-`, `*`, `<<<` wrap at the width, whose
`sshiftRight` is the shift `>>a` and whose `sdiv` is the division `/t` (00_scope.md rule R6). -/

namespace Sys2Proof.Machine

open Sys2Proof

/-! ### LDCAL (rule R91) -/

/-- `u16le(B, i)` and `s16le(B, i)`: the 16 bits are the same, the reader of the coefficient says which. -/
def le16 (lo hi : Byte) : BitVec 16 := hi ++ lo

/-- `hi * 16 + nibble`, the packing of H4 and H5. -/
def packNibble (signedMsb : Bool) (hi : Byte) (nibble : BitVec 4) : BitVec 16 :=
  ((if signedMsb then hi.signExtend 16 else hi.setWidth 16) <<< 4) + nibble.setWidth 16

/-- The eighteen coefficients parsed from the two blocks. -/
def parseCalibration (signedMsb : Bool) (b1 : Vector Byte 26) (b2 : Vector Byte 7) : CalibrationData where
  t1 := le16 b1[0] b1[1]
  t2 := le16 b1[2] b1[3]
  t3 := le16 b1[4] b1[5]
  p1 := le16 b1[6] b1[7]
  p2 := le16 b1[8] b1[9]
  p3 := le16 b1[10] b1[11]
  p4 := le16 b1[12] b1[13]
  p5 := le16 b1[14] b1[15]
  p6 := le16 b1[16] b1[17]
  p7 := le16 b1[18] b1[19]
  p8 := le16 b1[20] b1[21]
  p9 := le16 b1[22] b1[23]
  h1 := b1[25]
  h2 := le16 b2[0] b2[1]
  h3 := b2[2]
  h4 := packNibble signedMsb b2[3] (b2[4].extractLsb' 0 4)
  h5 := packNibble signedMsb b2[5] (b2[4].extractLsb' 4 4)
  h6 := b2[6]

/-- The blocks have the expected lengths. -/
def calLengthsOk (c : Compensation) : Bool := c.cb1len = 26 && c.cb2len = 7

/-- The pseudocode of LDCAL (rule R91). -/
def opLdcal (s : State) : Result :=
  if calLengthsOk s.comp then
    ret .ok { s with
      comp.coef := parseCalibration s.cfg.h45SignedMsb s.comp.cb1 s.comp.cb2
      comp.calv := true }
  else raise .calibrationError s

/-! ### UNPACK (rule R92) -/

/-- Twenty bits from three bytes, most significant first, the last nibble dropped. -/
def raw20 (b0 b1 b2 : Byte) : BitVec 20 := b0 ++ b1 ++ b2.extractLsb' 4 4

/-- The pseudocode of UNPACK (rule R92). -/
def opUnpack (s : State) : Result :=
  ret .ok { s with
    comp.rawP := raw20 s.comp.dbuf[0] s.comp.dbuf[1] s.comp.dbuf[2]
    comp.rawT := raw20 s.comp.dbuf[3] s.comp.dbuf[4] s.comp.dbuf[5]
    comp.rawH := s.comp.dbuf[6] ++ s.comp.dbuf[7] }

/-! ### COMPT (rule R93) -/

/-- `T_FINE`: the two intermediate terms and their sum. -/
def fineTemperature (c : Compensation) : Word :=
  let a  : Word := c.rawT.setWidth 32
  let t1 : Word := c.coef.t1.setWidth 32
  let t2 : Word := c.coef.t2.signExtend 32
  let t3 : Word := c.coef.t3.signExtend 32
  let v1 := ((a.sshiftRight 3 - (t1 <<< 1)) * t2).sshiftRight 11
  let v2 := ((((a.sshiftRight 4 - t1) * (a.sshiftRight 4 - t1)).sshiftRight 12) * t3).sshiftRight 14
  v1 + v2

/-- `TEMP` from `T_FINE`: scaling by 5, rounding bias 128, right shift by 8 (rules R4, R93). -/
def centidegrees (fine : Word) : Word := (fine * 5 + 128).sshiftRight 8

/-- A compensation operation needs `CALV = 1`; otherwise it raises CalibrationError before anything else (rule
R90). -/
def needCalibration (s : State) (k : State → Result) : Result :=
  if s.comp.calv then k s else raise .calibrationError s

/-- The pseudocode of COMPT (rule R93). -/
def opCompt (s : State) : Result :=
  needCalibration s fun s =>
    let fine := fineTemperature s.comp
    ret .ok { s with comp.tFine := fine, comp.sample.temp := centidegrees fine }

/-! ### COMPP (rule R94) -/

/-- `v2` of rule R94, after its three lines; `x` is the working variable `T_FINE - 128000`. -/
def pressureOffset (c : CalibrationData) (x : DWord) : DWord :=
  x * x * c.p6.signExtend 64 + ((x * c.p5.signExtend 64) <<< 17) + (c.p4.signExtend 64 <<< 35)

/-- `v1` of rule R94, the "first-stage denominator term". -/
def pressureDenominator (c : CalibrationData) (x : DWord) : DWord :=
  let v1 := (x * x * c.p3.signExtend 64).sshiftRight 8 + ((x * c.p2.signExtend 64) <<< 12)
  ((((1 : DWord) <<< 47) + v1) * c.p1.setWidth 64).sshiftRight 33

/-- The lines of rule R94 after the zero guard; `v1` is the denominator, not 0. -/
def pressureQuotient (c : CalibrationData) (rawP : BitVec 20) (v1 v2 : DWord) : DWord :=
  let p : DWord := 1048576 - rawP.setWidth 64
  let p := (((p <<< 31) - v2) * 3125).sdiv v1
  let w1 := (c.p9.signExtend 64 * p.sshiftRight 13 * p.sshiftRight 13).sshiftRight 25
  let w2 := (c.p8.signExtend 64 * p).sshiftRight 19
  (p + w1 + w2).sshiftRight 8 + (c.p7.signExtend 64 <<< 4)

/-- `PRESS`: 0 by the zero guard, else the low 32 bits of the result (rule R94). -/
def pressureQ8 (c : Compensation) : Word :=
  let x := c.tFine.signExtend 64 - Config.pOffset
  let v1 := pressureDenominator c.coef x
  if v1 = 0 then 0 else (pressureQuotient c.coef c.rawP v1 (pressureOffset c.coef x)).setWidth 32

/-- The pseudocode of COMPP (rule R94). -/
def opCompp (s : State) : Result :=
  needCalibration s fun s => ret .ok { s with comp.sample.press := pressureQ8 s.comp }

/-! ### COMPH (rule R95) -/

/-- `v` of rule R95 before the clamp. -/
def humidityIntermediate (c : Compensation) : Word :=
  let h1 : Word := c.coef.h1.setWidth 32
  let h2 : Word := c.coef.h2.signExtend 32
  let h3 : Word := c.coef.h3.setWidth 32
  let h4 : Word := c.coef.h4.signExtend 32
  let h5 : Word := c.coef.h5.signExtend 32
  let h6 : Word := c.coef.h6.signExtend 32
  let raw : Word := c.rawH.setWidth 32
  let x := c.tFine - 76800
  let a := ((raw <<< 14) - (h4 <<< 20) - h5 * x + 16384).sshiftRight 15
  let b1 := (x * h6).sshiftRight 10
  let b2 := (x * h3).sshiftRight 11 + 32768
  let b3 := (b1 * b2).sshiftRight 10 + 2097152
  let b := (b3 * h2 + 8192).sshiftRight 14
  let v := a * b
  let q := v.sshiftRight 15
  v - (((q * q).sshiftRight 7) * h1).sshiftRight 4

/-- The clamp to the closed range `[0, 419430400]` (rules R4, R95). -/
def clampHumidity (v : Word) : Word :=
  if v.toInt < 0 then 0 else if Config.humClampMax.toInt < v.toInt then Config.humClampMax else v

/-- `HUM`: the clamped intermediate shifted right by 12 (rules R4, R95). -/
def humidityQ10 (c : Compensation) : Word := (clampHumidity (humidityIntermediate c)).sshiftRight 12

/-- The pseudocode of COMPH (rule R95). -/
def opComph (s : State) : Result :=
  needCalibration s fun s => ret .ok { s with comp.sample.hum := humidityQ10 s.comp }

/-! ### RDALL (rule R96) -/

/-- The lines of RDALL after the read: the block is stored, then UNPACK, COMPT, COMPP, COMPH in the mandated order. -/
def compensateBlock (bytes : Vector Byte 8) (s : State) : Result :=
  andThen (opUnpack { s with comp.dbuf := bytes }) fun _ s =>
  andThen (opCompt s) fun _ s =>
  andThen (opCompp s) fun _ s =>
  andThen (opComph s) fun _ s => ret .ok s

/-- The pseudocode of RDALL (rule R96). -/
def opRdall (s : State) : Result :=
  needCalibration s fun s =>
    match readData s with
    | (none, s)            => stall s
    | (some .err, s)       => ret .transportError s
    | (some (.ok bytes), s) => compensateBlock bytes s

/-! ### The meanings -/

/-- LDCAL, opcode 0x01 (rules R74, R91). -/
def execLdcal (s : State) : Host.Outcome State Fault Refusal := runExec 0x01 opLdcal s

/-- UNPACK, opcode 0x02 (rules R74, R92). -/
def execUnpack (s : State) : Host.Outcome State Fault Refusal := runExec 0x02 opUnpack s

/-- COMPT, opcode 0x03 (rules R74, R93). -/
def execCompt (s : State) : Host.Outcome State Fault Refusal := runExec 0x03 opCompt s

/-- COMPP, opcode 0x04 (rules R74, R94). -/
def execCompp (s : State) : Host.Outcome State Fault Refusal := runExec 0x04 opCompp s

/-- COMPH, opcode 0x05 (rules R74, R95). -/
def execComph (s : State) : Host.Outcome State Fault Refusal := runExec 0x05 opComph s

/-- RDALL, opcode 0x06 (rules R74, R96). -/
def execRdall (s : State) : Host.Outcome State Fault Refusal := runExec 0x06 opRdall s

end Sys2Proof.Machine
end

