-- ==== Sys2Proof/Machine/ControlFsm.lean ====
section
/-! DEFINITION. The ControlFSM (spec/42_fsm.md): FSTEP with the transition table, its log events and the indicator
latch, and ECONS. -/

namespace Sys2Proof.Machine

open Sys2Proof

/-- The "Next" column of the transition table of rule R127: `sw` is the switch edge, `h` the flag `hot`. -/
def fsmNext (cur : FsmState) (sw h : Bool) : FsmState :=
  match cur with
  | .normal    => if sw then .user else if h then .emergency else .normal
  | .emergency => if sw then .user else if h then .emergency else .normal
  | .user      => if h then .emergency else .normal

/-- The state-transition event of a change of state (rules R126, R133). -/
def transitionEvent (cur next : FsmState) : Event :=
  .emit (logRecord .stateTransition .transition (cur.code.setWidth 32) (next.code.setWidth 32) 0)

/-- The log events of one step, in order (rules R126, R129): `x` is the current sample, `avgv` and `avg` the last
average. -/
def fsmLog (cur next : FsmState) (x : Sample) (avgv : Bool) (avg : Word) : List Event :=
  match cur with
  | .user =>
    [.emit (logRecord .userFacing .userAvg (flagWord avgv) avg 0), transitionEvent cur next]
  | .normal =>
    if next = cur then [.emit (logRecord .info .infoSample x.temp x.press x.hum)] else [transitionEvent cur next]
  | .emergency =>
    if next = cur then [.emit (logRecord .warning .warnTemp x.temp 0 0)] else [transitionEvent cur next]

/-- `BRIGHT(s)` (rule R134). -/
def bright (cfg : Config.Params) : FsmState → Byte
  | .normal    => cfg.brightNormal
  | .emergency => cfg.brightEmergency
  | .user      => cfg.brightUser

/-- `HALF(s)` (rule R134). Rule R134 asks for it in Normal and Emergency only, since User never stays; the value
in User is never used (rule R136). -/
def half (cfg : Config.Params) : FsmState → Byte
  | .normal    => cfg.halfNormal
  | .emergency => cfg.halfEmergency
  | .user      => cfg.halfNormal

/-- The indicator update of rule R134, for a CORE that has one. -/
def indicatorUpdate (cur next : FsmState) (s : State) : State :=
  if next = cur then
    let count := s.ctl.blinkcnt + 1
    if half s.cfg cur ≤ count then
      let level := if s.ctl.level = 0 then bright s.cfg cur else 0
      put (.setLevel level) { s with ctl.blinkcnt := 0, ctl.level := level }
    else { s with ctl.blinkcnt := count }
  else
    put (.setLevel (bright s.cfg next)) { s with ctl.blinkcnt := 0, ctl.level := bright s.cfg next }

/-- The transition of one step: the log events, then the new state and the used-up edge operand (rule R126). -/
def fsmTransition (s : State) : State :=
  let next := fsmNext s.ctl.fsm s.ctl.sw (hot s.comp.sample.temp)
  putAll (fsmLog s.ctl.fsm next s.comp.sample s.win.avgv s.win.avg) { s with ctl.fsm := next, ctl.sw := false }

/-- The pseudocode of FSTEP (rule R126). -/
def opFstep (s : State) : Result :=
  let t := fsmTransition s
  ret .ok (if s.cfg.hasIndicator then indicatorUpdate s.ctl.fsm t.ctl.fsm t else t)

/-- The pseudocode of ECONS, one indivisible action (rules R62, R130). -/
def opEcons (s : State) : Result := ret .ok { s with ctl.sw := s.ctl.edge, ctl.edge := false }

/-- FSTEP, opcode 0x20 (rules R74, R126). -/
def execFstep (s : State) : Host.Outcome State Fault Refusal := runExec 0x20 opFstep s

/-- ECONS, opcode 0x21 (rules R74, R130). -/
def execEcons (s : State) : Host.Outcome State Fault Refusal := runExec 0x21 opEcons s

end Sys2Proof.Machine
end

