-- ==== Sys2Proof/Machine/MovingAverage.lean ====
section
/-! DEFINITION. The MovingAverageWindow (spec/41_window.md): WPUSH, WPOP, WAVG, WUPD. Full and empty are decided
by the length counter alone (rule R111). -/

namespace Sys2Proof.Machine

open Sys2Proof

/-- `(i + 1) mod 60`. -/
def nextSlot (i : Fin 60) : Fin 60 := ⟨(i.val + 1) % 60, Nat.mod_lt _ (by decide)⟩

/-- A window that is not full takes a sample at the head (rule R112). -/
def pushSample (x : Sample) (w : Window) (h : w.wlen.val < 60) : Window :=
  { w with
    buf   := w.buf.set w.whead x
    whead := nextSlot w.whead
    wlen  := ⟨w.wlen.val + 1, by omega⟩
    wsum  := sumAdd w.wsum (cdegF32 x.temp) }

/-- A window gives up its sample at the tail (rule R113). The slot keeps its content (U20). -/
def popSample (w : Window) : Window :=
  let x := w.buf[w.wtail]
  { w with
    popped := x
    wtail  := nextSlot w.wtail
    wlen   := ⟨w.wlen.val - 1, by omega⟩
    wsum   := sumSub w.wsum (cdegF32 x.temp) }

/-- The pseudocode of WPUSH (rule R112). -/
def opWpush (s : State) : Result :=
  if h : s.win.wlen.val < 60 then ret .ok { s with win := pushSample s.comp.sample s.win h }
  else ret .full s

/-- The pseudocode of WPOP (rule R113). -/
def opWpop (s : State) : Result :=
  if s.win.wlen.val = 0 then raise .empty s else ret .ok { s with win := popSample s.win }

/-- The pseudocode of WAVG (rule R114). -/
def opWavg (s : State) : Result :=
  if s.win.wlen.val = 0 then ret .ok { s with win.avgv := false }
  else ret .ok { s with win.avg := sumDiv s.win.wsum s.win.wlen.val, win.avgv := true }

/-- The pseudocode of WUPD, the window-maintenance policy (rule R115). -/
def opWupd (s : State) : Result :=
  andThen (opWpush s) fun st s =>
    if st = .full then ret .full (emit .warning .warnFull 0 0 0 s)
    else if s.win.wlen.val = 60 then andThen (opWpop s) fun _ s => ret .ok s
    else ret .ok s

/-- WPUSH, opcode 0x10 (rules R74, R112). -/
def execWpush (s : State) : Host.Outcome State Fault Refusal := runExec 0x10 opWpush s

/-- WPOP, opcode 0x11 (rules R74, R113). -/
def execWpop (s : State) : Host.Outcome State Fault Refusal := runExec 0x11 opWpop s

/-- WAVG, opcode 0x12 (rules R74, R114). -/
def execWavg (s : State) : Host.Outcome State Fault Refusal := runExec 0x12 opWavg s

/-- WUPD, opcode 0x13 (rules R74, R115). -/
def execWupd (s : State) : Host.Outcome State Fault Refusal := runExec 0x13 opWupd s

end Sys2Proof.Machine
end

