-- ==== Sys2Proof/Machine/Scheduler.lean ====
section
/-! DEFINITION. The SamplingScheduler (spec/43_scheduler.md): the composite operations INIT, POLL, TICKSEQ. -/

namespace Sys2Proof.Machine

open Sys2Proof

/-- INIT after the first block is stored: the second read, then LDCAL (rule R141). -/
def initSecondBlock (s : State) : Result :=
  match readCal2 s with
  | (none, s)             => stall s
  | (some .err, s)        => raise .calibrationError s
  | (some (.ok bytes), s) =>
    andThen (opLdcal { s with comp.cb2 := bytes, comp.cb2len := 7 }) fun _ s => ret .ok s

/-- The pseudocode of INIT (rule R141). -/
def opInit (s : State) : Result :=
  match readCal1 s with
  | (none, s)             => stall s
  | (some .err, s)        => raise .calibrationError s
  | (some (.ok bytes), s) => initSecondBlock { s with comp.cb1 := bytes, comp.cb1len := 26 }

/-- The steps of a tick after a good read: window, average, edge, FSM; the status is the window's (rule R143). -/
def tickAfterSample (s : State) : Result :=
  andThen (opWupd s) fun st s =>
  andThen (opWavg s) fun _ s =>
  andThen (opEcons s) fun _ s =>
  andThen (opFstep s) fun _ s => ret st s

/-- The pseudocode of TICKSEQ (rules R143 to R145). -/
def opTickseq (s : State) : Result :=
  andThen (opRdall s) fun st s =>
    if st = .transportError then ret .transportError (emit .warning .warnXport 0 0 0 s) else tickAfterSample s

/-- The pseudocode of POLL (rule R142). -/
def opPoll (s : State) : Result :=
  needCalibration s fun s =>
    if s.env.tick = s.port.lasttick then ret .ok s
    else opTickseq { s with port.lasttick := s.env.tick }

/-- INIT, opcode 0x30 (rules R74, R141). -/
def execInit (s : State) : Host.Outcome State Fault Refusal := runExec 0x30 opInit s

/-- POLL, opcode 0x31 (rules R74, R142). -/
def execPoll (s : State) : Host.Outcome State Fault Refusal := runExec 0x31 opPoll s

/-- TICKSEQ, opcode 0x32 (rules R74, R143). -/
def execTickseq (s : State) : Host.Outcome State Fault Refusal := runExec 0x32 opTickseq s

end Sys2Proof.Machine
end

