-- ==== Sys2Proof/Machine/Dispatch.lean ====
section
/-! DEFINITION. One arm per instruction: which meaning it has. -/

namespace Sys2Proof.Machine

open Sys2Proof

/-- What the machine does with a decoded command word (spec/44_host_port.md rule R159). -/
def exec (i : Instr) (s : State) : Host.Outcome State Fault Refusal :=
  match i with
  | .nop => Sys2Proof.Machine.execNop s
  | .ldcal => Sys2Proof.Machine.execLdcal s
  | .unpack => Sys2Proof.Machine.execUnpack s
  | .compt => Sys2Proof.Machine.execCompt s
  | .compp => Sys2Proof.Machine.execCompp s
  | .comph => Sys2Proof.Machine.execComph s
  | .rdall => Sys2Proof.Machine.execRdall s
  | .wpush => Sys2Proof.Machine.execWpush s
  | .wpop => Sys2Proof.Machine.execWpop s
  | .wavg => Sys2Proof.Machine.execWavg s
  | .wupd => Sys2Proof.Machine.execWupd s
  | .fstep => Sys2Proof.Machine.execFstep s
  | .econs => Sys2Proof.Machine.execEcons s
  | .init => Sys2Proof.Machine.execInit s
  | .poll => Sys2Proof.Machine.execPoll s
  | .tickseq => Sys2Proof.Machine.execTickseq s
  | .wr addr data => Sys2Proof.Machine.execWr addr data s
  | .rd addr => Sys2Proof.Machine.execRd addr s

end Sys2Proof.Machine
end

