-- ==== Sys2Proof/Machine/Cycle.lean ====
section
/-! DEFINITION. What the CORE does with the next thing that reaches it: a command word (spec/44_host_port.md rule
R159), an edge-set event, a reset event, or a change in what its environment will answer. -/

namespace Sys2Proof.Machine

open Sys2Proof

/-- The command cycle: decode, then an illegal word or the instruction (rule R159). -/
def commandCycle (w : CmdWord) (s : State) : Host.Outcome State Fault Refusal :=
  match decode w with
  | .ok i    => exec i s
  | .error _ => .next (illegalCommand s)

/-- One input reaches the CORE. A word presented while an operation still waits is not accepted
(70_reset_and_hazards.md rule R202; log entry 6). -/
def acceptInput (inp : Input) (s : State) : Host.Outcome State Fault Refusal :=
  match inp with
  | .command w    => if s.env.stalled then .next s else commandCycle w s
  | .edge         => .next (edgeEvent s)
  | .reset        => .next (resetEvent s)
  | .tick v       => .next { s with env.tick := v }
  | .answerCal1 a => .next { s with env.cal1 := s.env.cal1 ++ [a] }
  | .answerCal2 a => .next { s with env.cal2 := s.env.cal2 ++ [a] }
  | .answerData a => .next { s with env.data := s.env.data ++ [a] }

/-- The first input that has not yet reached the CORE does; with none left the CORE idles, waiting for a command
word (rules R11, R190). -/
def nextInput (s : State) : Host.Outcome State Fault Refusal :=
  match s.env.inputs with
  | []          => .next s
  | inp :: rest => acceptInput inp { s with env.inputs := rest }

/-- `s` with the command word `w` the next thing to reach the CORE, and no operation waiting, so that the word is
accepted (log entry 4). -/
def offerCommand (w : CmdWord) (s : State) : State :=
  { s with env.inputs := .command w :: s.env.inputs, env.stalled := false }

end Sys2Proof.Machine
end

