-- ==== Sys2Proof/Machine/Step.lean ====
section
/-! DEFINITION. One step of the machine, and the host's way to make a command word the next one. -/

namespace Sys2Proof.Machine

open Sys2Proof

/-- One step: the next input reaches the CORE and is dealt with to completion (spec/00_scope.md rule R9,
spec/44_host_port.md rule R159). -/
def step (s : State) : Host.Outcome State Fault Refusal := nextInput s

/-- `s` with the instruction of `nbits` bits `w` the next command word of the host. The CORE fetches nothing (rule
R11): this stands for the host issuing the word (log entry 4). -/
def State.withFetchWord (s : State) (nbits w : Nat) : State := offerCommand (tableWord nbits w) s

end Sys2Proof.Machine
end

