-- ==== Sys2Proof/WellFormed.lean ====
section
/-! DEFINITION. What the types do not already rule out. An instruction carries only an 8-bit address and a 32-bit
word, and every such operand is legal, so there is nothing to check of it; the parameters of 00_scope.md rule
R5 have constraints. The checks of the assembler's lines stand with them (Machine/Assembler.lean). -/

namespace Sys2Proof

/-- Every instruction is well-formed: "every one of the 256 is a legal operand of WR and RD" (20_memory.md rule R58),
the data of a WR is "taken verbatim" (30_encoding.md rule R73), and no other instruction has an operand (rule R72). -/
def Instr.wellFormed : Instr → Bool
  | .nop | .ldcal | .unpack | .compt | .compp | .comph | .rdall => true
  | .wpush | .wpop | .wavg | .wupd => true
  | .fstep | .econs => true
  | .init | .poll | .tickseq => true
  | .wr _ _ | .rd _ => true

/-- The constraints of the table of 00_scope.md rule R5: the three levels are not 0, the User level differs from
the other two, both half-periods are at least 1, the Normal one is the greater. -/
def Config.Params.wellFormed (p : Config.Params) : Bool :=
  p.brightNormal != 0 && p.brightEmergency != 0 && p.brightUser != 0
    && p.brightUser != p.brightNormal && p.brightUser != p.brightEmergency
    && decide (1 ≤ p.halfEmergency.toNat) && decide (p.halfEmergency.toNat < p.halfNormal.toNat)

end Sys2Proof
end

