-- ==== Sys2Proof/Safety.lean ====
section
/-! DEFINITION. What claims about the CORE speak of: the invariants the spec's rules promise, the exact values of
the float registers, and the parts of the output trace. -/

namespace Sys2Proof.Machine

open Sys2Proof

/-! ### Invariants -/

/-- `WHEAD = (WTAIL + WLEN) mod 60` (10_state.md rule R25(b)); R25(a) is in the types of the registers. -/
def Window.IndexInv (w : Window) : Prop := w.whead.val = (w.wtail.val + w.wlen.val) % 60

/-- `CAUSE` is 0 until a fatal error, and while halted `CODE` is a fatal code and `LAST` is that code (10_state.md
rules R34, R35, 44_host_port.md rule R158). -/
def Port.HaltInv (p : Port) : Prop :=
  (p.halt = false → p.causeOp = 0 ∧ p.causeCode = .ok) ∧
  (p.halt = true → (p.causeCode = .calibrationError ∨ p.causeCode = .empty) ∧ p.last = p.causeCode)

/-- The indicator latch: without an indicator both registers stay 0; with one, `BLINKCNT` is below the half-period
of the state the machine is in, 0 in User, and `LEVEL` is 0 or one of the three levels
(10_state.md rule R30, 42_fsm.md rule R134). -/
def IndicatorInv (cfg : Config.Params) (c : Control) : Prop :=
  (cfg.hasIndicator = false → c.level = 0 ∧ c.blinkcnt = 0) ∧
  (c.fsm = .normal → c.blinkcnt < cfg.halfNormal) ∧
  (c.fsm = .emergency → c.blinkcnt < cfg.halfEmergency) ∧
  (c.fsm = .user → c.blinkcnt = 0) ∧
  (c.level = 0 ∨ c.level = cfg.brightNormal ∨ c.level = cfg.brightEmergency ∨ c.level = cfg.brightUser)

/-! ### Exact values -/

/-- The rational a quotient stands for. -/
def Frac.toRat (q : Frac) : ℚ := (q.num : ℚ) / (q.den : ℚ)

/-- The rational value of a binary32 register. -/
def real32 (x : Word) : ℚ := (value32 x).toRat

/-- The rational value of a binary64 register. -/
def real64 (x : DWord) : ℚ := (value64 x).toRat

/-- A binary32 pattern that is a number: neither an infinity nor a NaN. -/
def finite32 (x : Word) : Prop := x.toNat % 2 ^ 31 < 255 * 2 ^ 23

/-- A binary64 pattern that is a number. -/
def finite64 (x : DWord) : Prop := x.toNat % 2 ^ 63 < 2047 * 2 ^ 52

/-- `WSUM` is a number far inside the range of binary64 (00_scope.md rule R8). -/
def Window.SumBounded (w : Window) : Prop := finite64 w.wsum ∧ |real64 w.wsum| ≤ 2 ^ 100

/-- The live entry number `k`, the oldest being number 0 (10_state.md rule R25(c)). -/
def Window.live (w : Window) (k : Nat) : Sample :=
  w.buf[(w.wtail.val + k) % 60]'(Nat.mod_lt _ (by decide))

/-- The sum of the float Celsius forms of the live entries, oldest first. -/
def Window.liveSum (w : Window) : ℚ := ((List.range w.wlen.val).map fun k => real32 (cdegF32 (w.live k).temp)).sum

/-- A temperature inside the bound of 41_window.md rule R117. -/
def Temperate (t : Word) : Prop := |t.toInt| ≤ 13000000

/-- Every live temperature is inside the bound and `WSUM` is exactly the sum of the live entries (10_state.md rule
R25(d), 41_window.md rule R117). -/
def Window.SumExact (w : Window) : Prop :=
  (∀ k < w.wlen.val, Temperate (w.live k).temp) ∧ finite64 w.wsum ∧ real64 w.wsum = w.liveSum

/-! ### The output trace -/

/-- The event is a response word. -/
def Event.isResponse : Event → Bool
  | .response _ => true
  | _ => false

/-- The event is a transport request. -/
def Event.isRequest : Event → Bool
  | .xportRead _ _ => true
  | _ => false

/-- The event is an indicator level. -/
def Event.isLevel : Event → Bool
  | .setLevel _ => true
  | _ => false

/-! ### Runs -/

/-- Length and indices of the window, and the halt, are the same in both states. -/
def SameExtent (s t : State) : Prop :=
  t.win.wlen = s.win.wlen ∧ t.win.whead = s.win.whead ∧ t.win.wtail = s.win.wtail ∧ t.port.halt = s.port.halt

/-- `n` WUPD commands in a row, with `between k` done to the state before the `k`-th; `none` once an outcome is no next
state. -/
def wupdRun (between : Nat → State → State) : Nat → State → Option State
  | 0, s => some s
  | n + 1, s =>
    match wupdRun between n s with
    | none => none
    | some t =>
      match exec .wupd (between n t) with
      | .next u => some u
      | .fault _ => none
      | .refused _ => none

end Sys2Proof.Machine
end

