-- ==== Sys2Proof/Certificates/Slice0/RuleFormulas.lean ====
section
/-! DEFINITION. The formulas of the spec's rules over whole numbers, with the wrap written out where the rules have
it (spec/00_scope.md section 5.2), and the read values of the register map as numbers. The statements compare
the machine, which computes on words, with these. -/

namespace Sys2Proof.Rules

open Sys2Proof Sys2Proof.Machine

/-- `wrap_N(z)`: the signed N-bit value congruent to `z` modulo 2^N. -/
def wrap (n : Nat) (z : Int) : Int := Int.bmod z (2 ^ n)

/-- `a >>a k = floor(a / 2^k)`. -/
def shr (a : Int) (k : Nat) : Int := Int.fdiv a (2 ^ k)

/-- `T_FINE` of 40_compensation.md rule R93. -/
def fineTemp (rawT t1 t2 t3 : Int) : Int :=
  let v1 := shr (wrap 32 (wrap 32 (shr rawT 3 - wrap 32 (t1 * 2 ^ 1)) * t2)) 11
  let d := wrap 32 (shr rawT 4 - t1)
  let v2 := shr (wrap 32 (shr (wrap 32 (d * d)) 12 * t3)) 14
  wrap 32 (v1 + v2)

/-- `TEMP` of rule R93 from `T_FINE`. -/
def temperature (fine : Int) : Int := shr (wrap 32 (wrap 32 (fine * 5) + 128)) 8

/-- `v1` of rule R94 after its last line, from the working variable `x`. -/
def denominator (x p1 p2 p3 : Int) : Int :=
  let v1 := wrap 64 (shr (wrap 64 (wrap 64 (x * x) * p3)) 8 + wrap 64 (wrap 64 (x * p2) * 2 ^ 12))
  shr (wrap 64 (wrap 64 (2 ^ 47 + v1) * p1)) 33

/-- The value of rule R94 whose low 32 bits are `PRESS`, 0 by the zero guard. -/
def pressure (rawP fine p1 p2 p3 p4 p5 p6 p7 p8 p9 : Int) : Int :=
  let x := wrap 64 (fine - 128000)
  let v2 := wrap 64 (wrap 64 (x * x) * p6)
  let v2 := wrap 64 (v2 + wrap 64 (wrap 64 (x * p5) * 2 ^ 17))
  let v2 := wrap 64 (v2 + wrap 64 (p4 * 2 ^ 35))
  let v1 := denominator x p1 p2 p3
  if v1 = 0 then 0
  else
    let p := wrap 64 (1048576 - rawP)
    let p := wrap 64 (Int.tdiv (wrap 64 (wrap 64 (wrap 64 (p * 2 ^ 31) - v2) * 3125)) v1)
    let w1 := shr (wrap 64 (wrap 64 (p9 * shr p 13) * shr p 13)) 25
    let w2 := shr (wrap 64 (p8 * p)) 19
    wrap 64 (shr (wrap 64 (wrap 64 (p + w1) + w2)) 8 + wrap 64 (p7 * 2 ^ 4))

/-- `HUM` of rule R95. -/
def humidity (rawH fine h1 h2 h3 h4 h5 h6 : Int) : Int :=
  let x := wrap 32 (fine - 76800)
  let a := wrap 32 (wrap 32 (rawH * 2 ^ 14) - wrap 32 (h4 * 2 ^ 20))
  let a := wrap 32 (a - wrap 32 (h5 * x))
  let a := shr (wrap 32 (a + 16384)) 15
  let b1 := shr (wrap 32 (x * h6)) 10
  let b2 := wrap 32 (shr (wrap 32 (x * h3)) 11 + 32768)
  let b3 := wrap 32 (shr (wrap 32 (b1 * b2)) 10 + 2097152)
  let b := shr (wrap 32 (wrap 32 (b3 * h2) + 8192)) 14
  let v := wrap 32 (a * b)
  let q := shr v 15
  let v := wrap 32 (v - shr (wrap 32 (shr (wrap 32 (q * q)) 7 * h1)) 4)
  let v := if v < 0 then 0 else v
  let v := if 419430400 < v then 419430400 else v
  shr v 12

/-- `u16le` of rule R91 as a number. -/
def u16le (lo hi : Byte) : Int := lo.toNat + 256 * hi.toNat

/-- `s16le` of rule R91. -/
def s16le (lo hi : Byte) : Int := wrap 16 (u16le lo hi)

/-- The high byte of H4 and H5 as rule R91 reads it. -/
def msbValue (signedMsb : Bool) (b : Byte) : Int := if signedMsb then wrap 8 b.toNat else b.toNat

/-- The coefficients have the values rule R91 gives them. -/
def Parsed (signedMsb : Bool) (b1 : Vector Byte 26) (b2 : Vector Byte 7) (c : CalibrationData) : Prop :=
  (c.t1.toNat : Int) = u16le b1[0] b1[1] ∧ c.t2.toInt = s16le b1[2] b1[3] ∧ c.t3.toInt = s16le b1[4] b1[5] ∧
  (c.p1.toNat : Int) = u16le b1[6] b1[7] ∧ c.p2.toInt = s16le b1[8] b1[9] ∧ c.p3.toInt = s16le b1[10] b1[11] ∧
  c.p4.toInt = s16le b1[12] b1[13] ∧ c.p5.toInt = s16le b1[14] b1[15] ∧ c.p6.toInt = s16le b1[16] b1[17] ∧
  c.p7.toInt = s16le b1[18] b1[19] ∧ c.p8.toInt = s16le b1[20] b1[21] ∧ c.p9.toInt = s16le b1[22] b1[23] ∧
  (c.h1.toNat : Int) = b1[25].toNat ∧ c.h2.toInt = s16le b2[0] b2[1] ∧ (c.h3.toNat : Int) = b2[2].toNat ∧
  c.h4.toInt = msbValue signedMsb b2[3] * 16 + (b2[4].toNat % 16 : Nat) ∧
  c.h5.toInt = msbValue signedMsb b2[5] * 16 + (b2[4].toNat / 16 : Nat) ∧
  c.h6.toInt = wrap 8 b2[6].toNat

/-- `r` is a number (`fin`) whose value (`val`) is nearest to `q`, and its last bit is 0 where another value is equally
near (00_scope.md rule R7 and section 5.3). -/
def NearestEven {n : Nat} (val : BitVec n → ℚ) (fin : BitVec n → Prop) (q : ℚ) (r : BitVec n) : Prop :=
  fin r ∧ ∀ p, fin p →
    |val r - q| ≤ |val p - q| ∧ (|val r - q| = |val p - q| → val p ≠ val r → r.getLsbD 0 = false)

/-- A flag as a number. -/
def bit (b : Bool) : Int := if b then 1 else 0

/-- STATUS as the number its fields add up to (10_state.md rule R13). -/
def statusNumber (s : State) : Int :=
  bit s.port.halt + 2 * bit s.comp.calv + 4 * bit s.win.avgv + 8 * bit s.ctl.sw + 16 * bit s.ctl.edge
    + 32 * s.ctl.fsm.code.toNat + 256 * s.port.last.code.toNat

/-- The field of the slot `WIDX` selects, 0 for 60 to 63 (10_state.md rule R26). -/
def slotField (w : Window) (f : Sample → Word) : Int :=
  if h : w.widx.toNat < 60 then (f w.buf[w.widx.toNat]).toNat else 0

/-- The registers with an address to themselves and the number a read of each returns: a signed register by its
signed value, an unsigned one by its unsigned value (10_state.md rules R12, R20, R40). -/
def readTable (s : State) : List (Nat × Int) :=
  [
    (0x00, (statusNumber s : Int)),
    (0x01, (256 * s.port.causeOp.toNat + s.port.causeCode.code.toNat : Int)),
    (0x02, (s.port.lasttick.toNat : Int)),
    (0x03, (256 * s.ctl.blinkcnt.toNat + s.ctl.level.toNat : Int)),
    (0x04, (bit s.ctl.sw : Int)),
    (0x10, (s.comp.rawP.toNat : Int)),
    (0x11, (s.comp.rawT.toNat : Int)),
    (0x12, (s.comp.rawH.toNat : Int)),
    (0x13, (s.comp.tFine.toInt : Int)),
    (0x14, (s.comp.sample.temp.toInt : Int)),
    (0x15, (s.comp.sample.press.toNat : Int)),
    (0x16, (s.comp.sample.hum.toNat : Int)),
    (0x17, ((rnd32 ⟨s.comp.sample.temp.toInt, 100⟩).toNat : Int)),
    (0x18, ((rnd32 ⟨s.comp.sample.press.toNat, 25600⟩).toNat : Int)),
    (0x19, ((rnd32 ⟨s.comp.sample.hum.toNat, 1024⟩).toNat : Int)),
    (0x1A, (s.win.avg.toNat : Int)),
    (0x1B, (s.win.popped.temp.toInt : Int)),
    (0x1C, (s.win.popped.press.toNat : Int)),
    (0x1D, (s.win.popped.hum.toNat : Int)),
    (0x20, (s.win.whead.val : Int)),
    (0x21, (s.win.wtail.val : Int)),
    (0x22, (s.win.wlen.val : Int)),
    (0x23, ((s.win.wsum.toNat % 2 ^ 32 : Nat) : Int)),
    (0x24, ((s.win.wsum.toNat / 2 ^ 32 : Nat) : Int)),
    (0x25, (s.win.widx.toNat : Int)),
    (0x26, (slotField s.win (·.temp) : Int)),
    (0x27, (slotField s.win (·.press) : Int)),
    (0x28, (slotField s.win (·.hum) : Int)),
    (0x30, (s.comp.coef.t1.toNat : Int)),
    (0x31, (s.comp.coef.t2.toInt : Int)),
    (0x32, (s.comp.coef.t3.toInt : Int)),
    (0x33, (s.comp.coef.p1.toNat : Int)),
    (0x34, (s.comp.coef.p2.toInt : Int)),
    (0x35, (s.comp.coef.p3.toInt : Int)),
    (0x36, (s.comp.coef.p4.toInt : Int)),
    (0x37, (s.comp.coef.p5.toInt : Int)),
    (0x38, (s.comp.coef.p6.toInt : Int)),
    (0x39, (s.comp.coef.p7.toInt : Int)),
    (0x3A, (s.comp.coef.p8.toInt : Int)),
    (0x3B, (s.comp.coef.p9.toInt : Int)),
    (0x3C, (s.comp.coef.h1.toNat : Int)),
    (0x3D, (s.comp.coef.h2.toInt : Int)),
    (0x3E, (s.comp.coef.h3.toNat : Int)),
    (0x3F, (s.comp.coef.h4.toInt : Int)),
    (0x40, (s.comp.coef.h5.toInt : Int)),
    (0x41, (s.comp.coef.h6.toInt : Int)),
    (0x50, (s.comp.cb1len.toNat : Int)),
    (0x51, (s.comp.cb2len.toNat : Int))
  ]

/-- The number whose low 32 bits a read of address `a` returns; 0 where nothing is mapped (rules R40, R41). -/
def readNumber (s : State) (a : Nat) : Int :=
  if h : 0x60 ≤ a ∧ a ≤ 0x79 then s.comp.cb1[a - 0x60].toNat
  else if h : 0x80 ≤ a ∧ a ≤ 0x86 then s.comp.cb2[a - 0x80].toNat
  else if h : 0x90 ≤ a ∧ a ≤ 0x97 then s.comp.dbuf[a - 0x90].toNat
  else ((readTable s).lookup a).getD 0

/-- The host-writable addresses of 44_host_port.md rule R156. -/
def Writable (a : Nat) : Prop :=
  a = 0x04 ∨ (0x10 ≤ a ∧ a ≤ 0x16) ∨ a = 0x25 ∨ a = 0x50 ∨ a = 0x51 ∨ (0x60 ≤ a ∧ a ≤ 0x79) ∨
    (0x80 ≤ a ∧ a ≤ 0x86) ∨ (0x90 ≤ a ∧ a ≤ 0x97)

/-- The unlisted operation codes of 30_encoding.md rule R76. -/
def Unlisted (op : Nat) : Prop :=
  (0x07 ≤ op ∧ op ≤ 0x0F) ∨ (0x14 ≤ op ∧ op ≤ 0x1F) ∨ (0x22 ≤ op ∧ op ≤ 0x2F) ∨ 0x33 ≤ op

/-- The two registers of the indicator and the level event after a step from `cur` to `next`
(42_fsm.md rule R134), the new level, the new count and the `SetLevel` events. -/
def indicator (cfg : Config.Params) (cur next : FsmState) (level count : Byte) : Byte × Byte × List Event :=
  let brightness : FsmState → Byte
    | .normal => cfg.brightNormal
    | .emergency => cfg.brightEmergency
    | .user => cfg.brightUser
  let halfPeriod := if cur = .normal then cfg.halfNormal else cfg.halfEmergency
  if cfg.hasIndicator = false then (level, count, [])
  else if next ≠ cur then (brightness next, 0, [.setLevel (brightness next)])
  else if halfPeriod.toNat ≤ (count + 1).toNat then
    if level = 0 then (brightness cur, 0, [.setLevel (brightness cur)]) else (0, 0, [.setLevel 0])
  else (level, count + 1, [])

/-- The state after an FSTEP that goes to `next` with the given log events (42_fsm.md rules R126, R129, R134). -/
def afterFstep (s : State) (next : FsmState) (log : List LogRecord) : State :=
  let ind := indicator s.cfg s.ctl.fsm next s.ctl.level s.ctl.blinkcnt
  { s with
    ctl := { s.ctl with fsm := next, sw := false, level := ind.1, blinkcnt := ind.2.1 }
    port.last := .ok
    env.trace := s.env.trace ++ log.map Event.emit ++ ind.2.2 ++ [.response (rspWord .ok 0)] }

/-- A fatal error taken by the command with operation code `op`, and nothing else changed (60_exceptions.md rule
R168). -/
def afterFatal (s : State) (op : BitVec 8) (code : Status) : State :=
  { s with
    port := { s.port with halt := true, causeOp := op, causeCode := code, last := code }
    env.trace := s.env.trace ++ [.response (rspWord code 0)] }

/-- A command that changed nothing but `LAST`, answered with its status. -/
def afterStatus (s : State) (st : Status) : State :=
  { s with port.last := st, env.trace := s.env.trace ++ [.response (rspWord st 0)] }

end Sys2Proof.Rules
end

