-- ==== Sys2Proof/Machine/Assembler.lean ====
section
/-! DEFINITION. The lines of a host program (spec/30_encoding.md rules R78, R79) as syntax trees, what each expands
to, and the eleven hexadecimal digits of a word. How the characters of a line are grouped into a tree is
notation and not modelled (log entry 18). -/

namespace Sys2Proof.Machine

open Sys2Proof

/-- The address of a register: the name stands for it in a line (rules R40, R78). -/
def Reg.addr : Reg → Addr
  | .status => 0x00 | .cause => 0x01 | .lasttick => 0x02 | .ind => 0x03 | .sw => 0x04
  | .rawP => 0x10 | .rawT => 0x11 | .rawH => 0x12 | .tFine => 0x13 | .temp => 0x14 | .press => 0x15 | .hum => 0x16
  | .tempF => 0x17 | .pressF => 0x18 | .humF => 0x19 | .avg => 0x1A
  | .popTemp => 0x1B | .popPress => 0x1C | .popHum => 0x1D
  | .whead => 0x20 | .wtail => 0x21 | .wlen => 0x22 | .wsumLo => 0x23 | .wsumHi => 0x24 | .widx => 0x25
  | .wslotTemp => 0x26 | .wslotPress => 0x27 | .wslotHum => 0x28
  | .t1 => 0x30 | .t2 => 0x31 | .t3 => 0x32 | .p1 => 0x33 | .p2 => 0x34 | .p3 => 0x35 | .p4 => 0x36 | .p5 => 0x37
  | .p6 => 0x38 | .p7 => 0x39 | .p8 => 0x3A | .p9 => 0x3B | .h1 => 0x3C | .h2 => 0x3D | .h3 => 0x3E | .h4 => 0x3F
  | .h5 => 0x40 | .h6 => 0x41
  | .cb1len => 0x50 | .cb2len => 0x51
  | .cb1 i => 0x60 + BitVec.ofNat 8 i.val
  | .cb2 i => 0x80 + BitVec.ofNat 8 i.val
  | .dbuf i => 0x90 + BitVec.ofNat 8 i.val

/-- `<reg>` of a line: a register name or a numeric address (rule R78). -/
inductive RegRef where
  | name (r : Reg)
  | addr (n : Nat)
  deriving DecidableEq, Repr

/-- The buffers LDBUF can name (rule R79). -/
inductive Buffer where
  | cb1 | cb2 | dbuf
  deriving DecidableEq, Repr

/-- A line of a host program: a command, a pseudo-instruction, or an `@` line (rules R78, R79; `PRESSBTN` is a
second spelling of `@EDGE`). -/
inductive Line where
  | exec (i : Instr)
  | wr (r : RegRef) (value : Int)
  | rd (r : RegRef)
  | ldbuf (b : Buffer) (bytes : List Byte)
  | setsample (t p h : Int)
  | feed (t : Int)
  | event (e : Input)
  deriving DecidableEq, Repr

/-- The address a `<reg>` stands for. -/
def RegRef.toAddr : RegRef → Addr
  | .name r => r.addr
  | .addr n => BitVec.ofNat 8 n

/-- The address of the first byte of a buffer (rule R40). -/
def Buffer.base : Buffer → Addr
  | .cb1  => 0x60
  | .cb2  => 0x80
  | .dbuf => 0x90

/-- How many bytes a buffer has (rules R32, R33). -/
def Buffer.size : Buffer → Nat
  | .cb1  => Config.cal1Len
  | .cb2  => Config.cal2Len
  | .dbuf => Config.dataLen

/-- `WR <addr>, <value>`: "a negative value is written as its 32-bit two's complement" (rule R78). -/
def wrLine (a : Addr) (value : Int) : Instr := .wr a (BitVec.ofInt 32 value)

/-- `WR <buf>[0], b0; WR <buf>[1], b1; …` from address `a` on (rule R79). -/
def ldbufLines (a : Addr) : List Byte → List Instr
  | []          => []
  | b :: bytes  => .wr a (b.setWidth 32) :: ldbufLines (a + 1) bytes

/-- The instructions a line stands for; an `@` line stands for none (rules R78, R79). -/
def Line.instrs : Line → List Instr
  | .exec i          => [i]
  | .wr r value      => [wrLine r.toAddr value]
  | .rd r            => [.rd r.toAddr]
  | .ldbuf b bytes   => ldbufLines b.base bytes
  | .setsample t p h => [wrLine 0x14 t, wrLine 0x15 p, wrLine 0x16 h]
  | .feed t          => [wrLine 0x14 t]
  | .event _         => []

/-- What reaches the CORE when the host runs a line. -/
def Line.inputs : Line → List Input
  | .event e => [e]
  | l        => l.instrs.map fun i => .command (encode i)

/-- A value a line can give: 32 bits, signed or unsigned (rule R78). -/
def valueFits (v : Int) : Bool := decide (-(2 ^ 31 : Int) ≤ v) && decide (v < 2 ^ 32)

/-- A line is one the syntax of rules R78 and R79 admits. -/
def Line.wellFormed : Line → Bool
  | .exec i          => fieldKind (encode i) == 0b00
  | .wr r value      => (match r with | .name _ => true | .addr n => decide (n < 256)) && valueFits value
  | .rd r            => match r with | .name _ => true | .addr n => decide (n < 256)
  | .ldbuf b bytes   => decide (1 ≤ bytes.length) && decide (bytes.length ≤ b.size)
  | .setsample t p h => valueFits t && valueFits p && valueFits h
  | .feed t          => valueFits t
  | .event e         => match e with
    | .command _ => false
    | .edge | .reset | .tick _ | .answerCal1 _ | .answerCal2 _ | .answerData _ => true

/-- The word "printed as 11 hexadecimal digits", the first digit first (rule R78). -/
def hexDigits (w : CmdWord) : List (BitVec 4) :=
  (List.range 11).map fun k => w.extractLsb' (4 * (10 - k)) 4

end Sys2Proof.Machine
end

