-- ==== Sys2Proof/Certificates/Slice0/Obligations.lean ====
section
/-! DEFINITION. The statements about the model, each from the rules of spec/ its docstring names. -/

open Sys2Proof Sys2Proof.Machine

/-! ### Encoding (30_encoding.md) -/

/-- The decoder reads back every instruction the encoder writes, with every operand at every value (R70 to R74). -/
def Obligations.DecodeOfEncode : Prop := ∀ i : Instr, decode (encode i) = .ok i

/-- A word that decodes to an instruction is that instruction's encoding, but for the 32 bits that EXEC and RD words
ignore (R72, R73, U17). -/
def Obligations.EncodeOfDecode : Prop :=
  ∀ (w : CmdWord) (i : Instr), decode w = .ok i →
    encode i = if fieldKind w = 0b01 then w else packWord (fieldKind w) (fieldA w) 0

/-- Which words are illegal, and what an illegal word does: `LAST <- 5` unless halted, the response (5, 0), nothing
else (R76). -/
def Obligations.IllegalWordsAreRefused : Prop :=
  ∀ w : CmdWord,
    ((∃ i, decode w = .ok i) ↔
      ¬(w.toNat / 2 ^ 40 = 3 ∨ (w.toNat / 2 ^ 40 = 0 ∧ Rules.Unlisted (w.toNat / 2 ^ 32 % 2 ^ 8)))) ∧
    ∀ (s : State) (e : Illegal), decode w = .error e →
      (s.port.halt = false → commandCycle w s = .next (Rules.afterStatus s .illegalCommand)) ∧
      (s.port.halt = true → commandCycle w s =
        .next { s with env.trace := s.env.trace ++ [.response (rspWord .illegalCommand 0)] })

/-- Words written out in the spec decode to what it says they are (R78, V22, P1 to P4). -/
def Obligations.WordsOfTheSpecDecode : Prop :=
  decode 0x00000000001 = .ok .nop ∧ decode 0x00100000000 = .ok .ldcal ∧ decode 0x00300000000 = .ok .compt ∧
  decode 0x01300000000 = .ok .wupd ∧ decode 0x02000000000 = .ok .fstep ∧ decode 0x03100000000 = .ok .poll ∧
  decode 0x11400000960 = .ok (.wr 0x14 2400) ∧ decode 0x114FFFFFE0C = .ok (.wr 0x14 (BitVec.ofInt 32 (-500))) ∧
  decode 0x20000000000 = .ok (.rd 0x00) ∧ decode 0x30000000000 = .error .reservedKind ∧
  decode 0x00700000000 = .error (.unlistedOp 0x07)

/-- The response word holds the status in bits 34..32 and the data in bits 31..0 (R75). -/
def Obligations.ResponseWordHoldsStatusAndData : Prop :=
  ∀ (st : Status) (d : Word), (rspWord st d).toNat = st.code.toNat * 2 ^ 32 + d.toNat

/-! ### The step -/

/-- When the next input is a command word and no operation waits, a step is the command cycle on that word: `exec` of the
instruction it decodes to, or the refusal of an illegal word, which is answered with status 5 and sets `LAST` unless
the CORE is halted. Beside it the step only takes the word from the inputs (R9, R61, R76, R159; the list of inputs
is log entry 4). -/
def Obligations.StepRunsDecodedInstruction : Prop :=
  ∀ (s : State) (w : CmdWord) (rest : List Input), s.env.inputs = .command w :: rest → s.env.stalled = false →
    step s = commandCycle w { s with env.inputs := rest } ∧
    (∀ i, decode w = .ok i → i.wellFormed = true → step s = exec i { s with env.inputs := rest }) ∧
    (∀ e, decode w = .error e →
      (s.port.halt = false →
        step s = .next (Rules.afterStatus { s with env.inputs := rest } .illegalCommand)) ∧
      (s.port.halt = true → step s = .next { s with
        env := { s.env with
          inputs := rest, trace := s.env.trace ++ [.response (rspWord .illegalCommand 0)] } }))

/-- The word put where the machine takes its next command is the one the next step runs (the model's host port, log
entry 4). -/
def Obligations.FetchWordRunsNext : Prop :=
  ∀ (s : State) (nbits w : Nat) (i : Instr), decodeTableWord nbits w = some i →
    step (s.withFetchWord nbits w) = exec i { s with env.stalled := false }

/-- An edge-set event sets `EDGE`, halted or not, waiting or not, and does nothing else (R131). -/
def Obligations.EdgeEventSetsEdge : Prop :=
  ∀ (s : State) (rest : List Input), s.env.inputs = .edge :: rest →
    step s = .next { s with ctl.edge := true, env.inputs := rest }

/-- Every instruction that starts answers with exactly one response word, the last event of its trace, unless it
waits for ever for the transport, when it answers none (R75, R159, R210). -/
def Obligations.EveryCommandAnsweredOnce : Prop :=
  ∀ (i : Instr) (s : State), s.env.stalled = false →
    ∃ (t : State) (es : List Event), exec i s = .next t ∧ (∀ e ∈ es, e.isResponse = false) ∧
      ((t.env.stalled = true ∧ t.env.trace = s.env.trace ++ es) ∨
       (t.env.stalled = false ∧ ∃ rsp, t.env.trace = s.env.trace ++ es ++ [.response rsp]))

/-- No step changes a parameter, and what has left the CORE stays as it left (R5, R65). -/
def Obligations.ParametersAndTraceKept : Prop :=
  ∀ s t : State, step s = .next t → t.cfg = s.cfg ∧ s.env.trace <+: t.env.trace

/-! ### Host port (44_host_port.md, 10_state.md) -/

/-- NOP clears `LAST` and does nothing else; halted it is refused (R155). -/
def Obligations.NopOnlyClearsLast : Prop :=
  decode 0 = .ok .nop ∧
  ∀ s : State,
    (s.port.halt = false → exec .nop s = .next (Rules.afterStatus s .ok)) ∧
    (s.port.halt = true → exec .nop s =
      .next { s with env.trace := s.env.trace ++ [.response (rspWord s.port.causeCode 0)] })

/-- WR changes exactly the register its address names, keeping the low bits, and nothing at a read-only or unmapped
address; the answer is OK and `LAST` stays; halted it is refused (R156). -/
def Obligations.WrWritesExactlyItsRegister : Prop :=
  ∀ (s : State) (d : Word),
    (s.port.halt = true → ∀ a, exec (.wr a d) s = .next (respond s.port.causeCode 0 s)) ∧
    (s.port.halt = false →
    exec (.wr 0x04 d) s = .next (respond .ok 0 { s with ctl.sw := d.getLsbD 0 }) ∧
    exec (.wr 0x10 d) s = .next (respond .ok 0 { s with comp.rawP := d.extractLsb' 0 20 }) ∧
    exec (.wr 0x11 d) s = .next (respond .ok 0 { s with comp.rawT := d.extractLsb' 0 20 }) ∧
    exec (.wr 0x12 d) s = .next (respond .ok 0 { s with comp.rawH := d.extractLsb' 0 16 }) ∧
    exec (.wr 0x13 d) s = .next (respond .ok 0 { s with comp.tFine := d }) ∧
    exec (.wr 0x14 d) s = .next (respond .ok 0 { s with comp.sample.temp := d }) ∧
    exec (.wr 0x15 d) s = .next (respond .ok 0 { s with comp.sample.press := d }) ∧
    exec (.wr 0x16 d) s = .next (respond .ok 0 { s with comp.sample.hum := d }) ∧
    exec (.wr 0x25 d) s = .next (respond .ok 0 { s with win.widx := d.extractLsb' 0 6 }) ∧
    exec (.wr 0x50 d) s = .next (respond .ok 0 { s with comp.cb1len := d.extractLsb' 0 8 }) ∧
    exec (.wr 0x51 d) s = .next (respond .ok 0 { s with comp.cb2len := d.extractLsb' 0 8 }) ∧
    (∀ i : Fin 26, exec (.wr (BitVec.ofNat 8 (0x60 + i)) d) s =
      .next (respond .ok 0 { s with comp.cb1 := s.comp.cb1.set i (d.extractLsb' 0 8) })) ∧
    (∀ i : Fin 7, exec (.wr (BitVec.ofNat 8 (0x80 + i)) d) s =
      .next (respond .ok 0 { s with comp.cb2 := s.comp.cb2.set i (d.extractLsb' 0 8) })) ∧
    (∀ i : Fin 8, exec (.wr (BitVec.ofNat 8 (0x90 + i)) d) s =
      .next (respond .ok 0 { s with comp.dbuf := s.comp.dbuf.set i (d.extractLsb' 0 8) })) ∧
    ∀ a : Addr, ¬Rules.Writable a.toNat → exec (.wr a d) s = .next (respond .ok 0 s))

/-- RD answers OK and the register's value, sign-extended for a signed register and zero-extended for an unsigned
one, 0 where nothing is mapped, and changes no register, halted or not (R12, R41, R157). -/
def Obligations.RdReadsTheRegisterMap : Prop :=
  ∀ (s : State) (a : Addr),
    exec (.rd a) s = .next { s with
      env.trace := s.env.trace ++ [.response (rspWord .ok (BitVec.ofInt 32 (Rules.readNumber s a.toNat)))] }

/-- STATUS packs the flags as the table of R13 says, its reserved bits are 0, and reading it has no side effect. -/
def Obligations.StatusPacksTheFlags : Prop :=
  ∀ s : State, ∃ w : Word,
    exec (.rd 0x00) s = .next { s with env.trace := s.env.trace ++ [.response (rspWord .ok w)] } ∧
    w.getLsbD 0 = s.port.halt ∧ w.getLsbD 1 = s.comp.calv ∧ w.getLsbD 2 = s.win.avgv ∧
    w.getLsbD 3 = s.ctl.sw ∧ w.getLsbD 4 = s.ctl.edge ∧ w.extractLsb' 5 2 = s.ctl.fsm.code ∧
    w.getLsbD 7 = false ∧ w.extractLsb' 8 3 = s.port.last.code ∧ w.extractLsb' 11 21 = 0

/-- Every register name of the map stands at its own address, and the address leads back to the register (R40, the
model's two tables agree). -/
def Obligations.RegisterMapIsOneToOne : Prop := ∀ r : Reg, regAt r.addr = some r

/-- Only a WR to 0x25 changes `WIDX`; no operation does (R26). -/
def Obligations.WidxChangedOnlyByItsWrite : Prop :=
  ∀ (i : Instr) (s t : State), exec i s = .next t → (∀ d, i ≠ .wr 0x25 d) → t.win.widx = s.win.widx

/-- `LAST` keeps its value over WR and RD, and over every instruction while halted (R34). -/
def Obligations.LastKeptByTransactionsAndHalt : Prop :=
  ∀ (i : Instr) (s t : State), exec i s = .next t →
    (s.port.halt = true ∨ (∃ a d, i = .wr a d) ∨ ∃ a, i = .rd a) → t.port.last = s.port.last

/-! ### Errors and the halt (60_exceptions.md, 44_host_port.md R158) -/

/-- A halted CORE performs RD, refuses WR and EXEC with `CAUSE.CODE`, which is 2 or 4 where the invariant `HaltInv` holds,
answers an illegal word with 5, still takes edge-set events, visible in STATUS, and leaves the halt by a reset event
alone, which loses the edge (R158). -/
def Obligations.HaltedCoreRefuses : Prop :=
  ∀ s : State, s.port.halt = true →
    (∀ a, exec (.rd a) s = .next (respond .ok (readAddr s a) s)) ∧
    (∀ i, (∀ a, i ≠ .rd a) → exec i s = .next (respond s.port.causeCode 0 s)) ∧
    (s.port.HaltInv → s.port.causeCode.code = 2 ∨ s.port.causeCode.code = 4) ∧
    (∀ w e, decode w = .error e → commandCycle w s = .next (respond .illegalCommand 0 s)) ∧
    (∀ rest, s.env.inputs = .edge :: rest →
      ∃ t, step s = .next t ∧ t = { s with ctl.edge := true, env.inputs := rest } ∧
        (readAddr t 0x00).getLsbD 4 = true) ∧
    (∀ rest, s.env.inputs = .reset :: rest → ∃ t, step s = .next t ∧ t.port.halt = false ∧ t.ctl.edge = false) ∧
    (∀ t, step s = .next t → t.port.halt = false → ∃ rest, s.env.inputs = .reset :: rest)

/-- When an instruction halts the CORE, `CAUSE.OP` is the operation code in the host's word, `CAUSE.CODE` and `LAST`
are the fatal code 2 or 4, and the response carries it (R35, R140(c), R168). -/
def Obligations.FatalErrorRecordsItsCause : Prop :=
  ∀ (i : Instr) (s t : State), s.port.halt = false → exec i s = .next t → t.port.halt = true →
    t.port.causeOp = fieldA (encode i) ∧
    (t.port.causeCode = .calibrationError ∨ t.port.causeCode = .empty) ∧ t.port.last = t.port.causeCode ∧
    ∃ es, t.env.trace = s.env.trace ++ es ++ [.response (rspWord t.port.causeCode 0)]

/-- `CAUSE` is 0 until a fatal error; while halted it holds a fatal code, and `LAST` the same code: every step keeps
it so (R34, R35, R158, R168). -/
def Obligations.HaltInvKept : Prop :=
  ∀ s t : State, s.port.HaltInv → step s = .next t → t.port.HaltInv

/-- The invariants hold at `State.reset`. -/
def Obligations.InvariantsHoldAtReset : Prop :=
  State.reset.port.HaltInv ∧ State.reset.win.IndexInv ∧ State.reset.win.SumBounded ∧ State.reset.win.SumExact ∧
  IndicatorInv State.reset.cfg State.reset.ctl ∧ State.reset.cfg.wellFormed = true

/-! ### CompensationEngine (40_compensation.md) -/

/-- LDCAL parses the two blocks into the eighteen coefficients and sets `CALV`, or with a wrong length raises
CalibrationError with nothing written (R91). -/
def Obligations.LdcalParsesTheBlocks : Prop :=
  decode 0x00100000000 = .ok .ldcal ∧
  ∀ s : State, s.port.halt = false →
    (s.comp.cb1len = 26 ∧ s.comp.cb2len = 7 →
      ∃ c : CalibrationData, Rules.Parsed s.cfg.h45SignedMsb s.comp.cb1 s.comp.cb2 c ∧
        exec .ldcal s = .next (Rules.afterStatus { s with comp.coef := c, comp.calv := true } .ok)) ∧
    (s.comp.cb1len ≠ 26 ∨ s.comp.cb2len ≠ 7 →
      exec .ldcal s = .next (Rules.afterFatal s 0x01 .calibrationError))

/-- UNPACK extracts the three raw values from the eight bytes and changes nothing else but `LAST` (R92). -/
def Obligations.UnpackExtractsRawSample : Prop :=
  decode 0x00200000000 = .ok .unpack ∧
  ∀ s : State, s.port.halt = false →
    ∃ (p t : BitVec 20) (h : BitVec 16),
      p.toNat = (s.comp.dbuf[0].toNat * 65536 + s.comp.dbuf[1].toNat * 256 + s.comp.dbuf[2].toNat) / 16 ∧
      t.toNat = (s.comp.dbuf[3].toNat * 65536 + s.comp.dbuf[4].toNat * 256 + s.comp.dbuf[5].toNat) / 16 ∧
      h.toNat = s.comp.dbuf[6].toNat * 256 + s.comp.dbuf[7].toNat ∧
      exec .unpack s = .next (Rules.afterStatus { s with comp.rawP := p, comp.rawT := t, comp.rawH := h } .ok)

/-- COMPT computes `T_FINE` and `TEMP` by the formula over whole numbers with the wraps written out, for all operand
values, and changes nothing else but `LAST`; without calibration it raises CalibrationError (R93). -/
def Obligations.ComptFollowsItsFormula : Prop :=
  decode 0x00300000000 = .ok .compt ∧
  ∀ s : State, s.port.halt = false →
    (s.comp.calv = true →
      let fine := Rules.fineTemp s.comp.rawT.toNat s.comp.coef.t1.toNat s.comp.coef.t2.toInt s.comp.coef.t3.toInt
      exec .compt s = .next (Rules.afterStatus { s with
        comp.tFine := BitVec.ofInt 32 fine
        comp.sample.temp := BitVec.ofInt 32 (Rules.temperature fine) } .ok)) ∧
    (s.comp.calv = false → exec .compt s = .next (Rules.afterFatal s 0x03 .calibrationError))

/-- COMPP computes `PRESS` by the 64-bit formula with the wraps written out, 0 by the zero guard, for all operand
values, and changes nothing else but `LAST`; without calibration it raises CalibrationError (R94). -/
def Obligations.ComppFollowsItsFormula : Prop :=
  decode 0x00400000000 = .ok .compp ∧
  ∀ s : State, s.port.halt = false →
    (s.comp.calv = true →
      exec .compp s = .next (Rules.afterStatus { s with
        comp.sample.press := BitVec.ofInt 32 (Rules.pressure s.comp.rawP.toNat s.comp.tFine.toInt
          s.comp.coef.p1.toNat s.comp.coef.p2.toInt s.comp.coef.p3.toInt s.comp.coef.p4.toInt s.comp.coef.p5.toInt
          s.comp.coef.p6.toInt s.comp.coef.p7.toInt s.comp.coef.p8.toInt s.comp.coef.p9.toInt) } .ok)) ∧
    (s.comp.calv = false → exec .compp s = .next (Rules.afterFatal s 0x04 .calibrationError))

/-- COMPH computes `HUM` by the 32-bit formula with the wraps written out and the clamp, for all operand values, and
changes nothing else but `LAST`; without calibration it raises CalibrationError (R95). -/
def Obligations.ComphFollowsItsFormula : Prop :=
  decode 0x00500000000 = .ok .comph ∧
  ∀ s : State, s.port.halt = false →
    (s.comp.calv = true →
      exec .comph s = .next (Rules.afterStatus { s with
        comp.sample.hum := BitVec.ofInt 32 (Rules.humidity s.comp.rawH.toNat s.comp.tFine.toInt
          s.comp.coef.h1.toNat s.comp.coef.h2.toInt s.comp.coef.h3.toNat s.comp.coef.h4.toInt s.comp.coef.h5.toInt
          s.comp.coef.h6.toInt) } .ok)) ∧
    (s.comp.calv = false → exec .comph s = .next (Rules.afterFatal s 0x05 .calibrationError))

/-- After a COMPH that completed, `HUM` is in 0..102400 (R95, R100). -/
def Obligations.HumidityStaysInRange : Prop :=
  ∀ s t : State, exec .comph s = .next t → s.port.halt = false → s.comp.calv = true →
    t.comp.sample.hum.toNat ≤ 102400

/-- With `P1 = 0` the zero guard gives `PRESS = 0` whatever the other operands are, status OK, nothing else changed and
nothing emitted (R94 corner case (a), R174). -/
def Obligations.ZeroGuardGivesZeroPressure : Prop :=
  ∀ s : State, s.port.halt = false → s.comp.calv = true → s.comp.coef.p1 = 0 →
    exec .compp s = .next (Rules.afterStatus { s with comp.sample.press := 0 } .ok)

/-- Every compensation operation without calibration raises CalibrationError before any register write and any
transport request; UNPACK does not need calibration (R90). -/
def Obligations.UncalibratedOperationsAreFatal : Prop :=
  ∀ s : State, s.port.halt = false → s.comp.calv = false →
    exec .compt s = .next (Rules.afterFatal s 0x03 .calibrationError) ∧
    exec .compp s = .next (Rules.afterFatal s 0x04 .calibrationError) ∧
    exec .comph s = .next (Rules.afterFatal s 0x05 .calibrationError) ∧
    exec .rdall s = .next (Rules.afterFatal s 0x06 .calibrationError) ∧
    exec .poll s = .next (Rules.afterFatal s 0x31 .calibrationError) ∧
    exec .tickseq s = .next (Rules.afterFatal s 0x32 .calibrationError) ∧
    (∃ t, exec .unpack s = .next t ∧ t.port.halt = false) ∧
    (s.comp.cb1len = 26 ∧ s.comp.cb2len = 7 → ∃ t, exec .ldcal s = .next t ∧ t.port.halt = false)

/-- RDALL on a good answer stores the block and leaves the compensation registers as UNPACK, COMPT, COMPP, COMPH in
that order do; on a failed read it returns TransportError and changes no register but `LAST` (R96). -/
def Obligations.RdallIsReadThenTheFourSteps : Prop :=
  ∀ s : State, s.port.halt = false → s.comp.calv = true →
    (∀ bytes rest, s.env.data = .ok bytes :: rest →
      ∃ a b c d : State,
        exec .unpack { s with comp.dbuf := bytes } = .next a ∧ exec .compt a = .next b ∧
        exec .compp b = .next c ∧ exec .comph c = .next d ∧
        exec .rdall s = .next { s with
          comp := d.comp
          port.last := .ok
          env.data := rest
          env.trace := s.env.trace ++ [.xportRead s.cfg.dataAddr 8, .response (rspWord .ok 0)] }) ∧
    (∀ rest, s.env.data = .err :: rest →
      exec .rdall s = .next { s with
        port.last := .transportError
        env.data := rest
        env.trace := s.env.trace ++ [.xportRead s.cfg.dataAddr 8, .response (rspWord .transportError 0)] })

/-- The coefficients and `CALV` are changed by LDCAL and INIT alone (R14, R15). -/
def Obligations.CoefficientsChangedOnlyByCalibration : Prop :=
  ∀ (i : Instr) (s t : State), exec i s = .next t → i ≠ .ldcal → i ≠ .init →
    t.comp.coef = s.comp.coef ∧ t.comp.calv = s.comp.calv

/-! ### Floating point (00_scope.md R7, 42_fsm.md R128) -/

/-- `rnd32` and `rnd64` of every quotient below the overflow bound give the pattern of a number that is nearest to it,
and of two equally near numbers the one with the even last bit; the quotient 0 gives the pattern +0.0, a positive one a
pattern with sign bit 0, a negative one a pattern with sign bit 1 (R7, section 5.3; the sign bit of a negative
quotient that rounds to zero is log entry 11, R8 says that none arises). -/
def Obligations.RoundingIsNearestEven : Prop :=
  ∀ q : Frac, 0 < q.den →
    (|q.toRat| < 2 ^ 128 - 2 ^ 103 → Rules.NearestEven real32 finite32 q.toRat (rnd32 q)) ∧
    (|q.toRat| < 2 ^ 1024 - 2 ^ 970 → Rules.NearestEven real64 finite64 q.toRat (rnd64 q)) ∧
    (q.num = 0 → rnd32 q = 0 ∧ rnd64 q = 0) ∧
    (rnd32 q).msb = decide (q.num < 0) ∧ (rnd64 q).msb = decide (q.num < 0)

/-- The float comparison with 24.0 is the integer comparison with 2400, for every value of `TEMP`, and it is the
comparison the machine makes (R128). -/
def Obligations.ThresholdIsTheIntegerTest : Prop :=
  ∀ t : Word, ((24 : ℚ) ≤ real32 (cdegF32 t) ↔ 2400 ≤ t.toInt) ∧ (hot t = true ↔ 2400 ≤ t.toInt)

/-! ### MovingAverageWindow (41_window.md) -/

/-- WPUSH puts the current sample at the head, counts it and adds its temperature to the sum, or returns Full and
changes nothing but `LAST` (R112). -/
def Obligations.WpushInsertsAtHead : Prop :=
  decode 0x01000000000 = .ok .wpush ∧
  ∀ s : State, s.port.halt = false →
    (s.win.wlen.val ≠ 60 →
      ∃ w : Window, exec .wpush s = .next (Rules.afterStatus { s with win := w } .ok) ∧
        w.buf = s.win.buf.set s.win.whead s.comp.sample ∧ w.whead.val = (s.win.whead.val + 1) % 60 ∧
        w.wlen.val = s.win.wlen.val + 1 ∧ w.wtail = s.win.wtail ∧ w.widx = s.win.widx ∧
        w.wsum = rnd64 ((value64 s.win.wsum).add (value32 (rnd32 ⟨s.comp.sample.temp.toInt, 100⟩))) ∧
        w.avg = s.win.avg ∧ w.avgv = s.win.avgv ∧ w.popped = s.win.popped) ∧
    (s.win.wlen.val = 60 → exec .wpush s = .next (Rules.afterStatus s .full))

/-- WPOP moves the oldest sample to the `POP` registers, uncounts it and subtracts its temperature from the sum,
leaving the slot's content, or on an empty window raises Empty (R113). -/
def Obligations.WpopRemovesAtTail : Prop :=
  decode 0x01100000000 = .ok .wpop ∧
  ∀ s : State, s.port.halt = false →
    (s.win.wlen.val ≠ 0 →
      ∃ w : Window, exec .wpop s = .next (Rules.afterStatus { s with win := w } .ok) ∧
        w.popped = s.win.buf[s.win.wtail] ∧ w.wtail.val = (s.win.wtail.val + 1) % 60 ∧
        w.wlen.val + 1 = s.win.wlen.val ∧ w.whead = s.win.whead ∧ w.widx = s.win.widx ∧ w.buf = s.win.buf ∧
        w.wsum = rnd64 ((value64 s.win.wsum).sub (value32 (rnd32 ⟨s.win.buf[s.win.wtail].temp.toInt, 100⟩))) ∧
        w.avg = s.win.avg ∧ w.avgv = s.win.avgv) ∧
    (s.win.wlen.val = 0 → exec .wpop s = .next (Rules.afterFatal s 0x11 .empty))

/-- WAVG writes the twice-rounded quotient and `AVGV = 1`, or on an empty window only `AVGV = 0`, status OK either way
(R114). -/
def Obligations.WavgDividesOrSaysNoData : Prop :=
  decode 0x01200000000 = .ok .wavg ∧
  ∀ s : State, s.port.halt = false →
    (s.win.wlen.val = 0 → exec .wavg s = .next (Rules.afterStatus { s with win.avgv := false } .ok)) ∧
    (s.win.wlen.val ≠ 0 → exec .wavg s = .next (Rules.afterStatus { s with
      win.avg := rnd32 (value64 (rnd64 ⟨(value64 s.win.wsum).num, (value64 s.win.wsum).den * s.win.wlen.val⟩))
      win.avgv := true } .ok))

/-- WUPD is a WPUSH, with one WPOP after it when the window has become full; on a full window it logs the warning,
drops the sample and returns Full (R115). -/
def Obligations.WupdPushesThenEvicts : Prop :=
  decode 0x01300000000 = .ok .wupd ∧
  ∀ s : State, s.port.halt = false →
    (s.win.wlen.val < 59 → ∃ a, exec .wpush s = .next a ∧ exec .wupd s = .next a ∧ a.port.last = .ok) ∧
    (s.win.wlen.val = 59 →
      ∃ a b, exec .wpush s = .next a ∧ exec .wpop a = .next b ∧ b.port.last = .ok ∧
        exec .wupd s = .next { b with env.trace := a.env.trace }) ∧
    (s.win.wlen.val = 60 → exec .wupd s = .next { s with
      port.last := .full
      env.trace := s.env.trace ++ [.emit ⟨1, 4, 0, 0, 0⟩, .response (rspWord .full 0)] })

/-- After n WUPD commands from a state with an empty window, `WHEAD = WTAIL = 0` and no halt, as a reset leaves it
whatever the unspecified registers and the parameters are, with anything in between that touches neither the window's
extent nor the halt, the window holds min(n, 59) entries, the head is n mod 60, the tail 0 up to n = 59 and
(n - 59) mod 60 from then on, and every WUPD returned OK (R116). -/
def Obligations.WupdOccupancyInSteadyState : Prop :=
  ∀ (between : Nat → State → State), (∀ k u, SameExtent u (between k u)) →
    ∀ s : State, s.port.halt = false → s.win.wlen.val = 0 → s.win.whead.val = 0 → s.win.wtail.val = 0 →
      ∀ n : Nat, ∃ t : State, wupdRun between n s = some t ∧
        t.win.wlen.val = min n 59 ∧ t.win.whead.val = n % 60 ∧
        t.win.wtail.val = (if n ≤ 59 then 0 else (n - 59) % 60) ∧ (0 < n → t.port.last = .ok) ∧ t.port.halt = false

/-- One WUPD in every state: where the window has the extent that n of them leave, it returns OK and leaves the extent of
n + 1 (R116 step by step). -/
def Obligations.WupdAdvancesSteadyState : Prop :=
  ∀ (n : Nat) (s : State), s.port.halt = false → s.win.wlen.val = min n 59 → s.win.whead.val = n % 60 →
    s.win.wtail.val = (if n ≤ 59 then 0 else (n - 59) % 60) →
    ∃ t, exec .wupd s = .next t ∧ t.port.last = .ok ∧ t.port.halt = false ∧
      t.win.wlen.val = min (n + 1) 59 ∧ t.win.whead.val = (n + 1) % 60 ∧
      t.win.wtail.val = (if n + 1 ≤ 59 then 0 else (n + 1 - 59) % 60)

/-- Every step keeps `WHEAD = (WTAIL + WLEN) mod 60`; `WLEN` is at most 60 by its type (R25(a), R25(b)). -/
def Obligations.IndexInvKept : Prop :=
  ∀ s t : State, s.win.IndexInv → step s = .next t → t.win.IndexInv

/-- While the temperatures pushed are within 130000 °C, no addition or subtraction on `WSUM` rounds: `WSUM` is exactly the
sum of the live entries after every step if it was before. The bound is asked of a step alone in which a command pushed
a sample, which moves `WHEAD` (R112); the sample pushed is the one the sample registers then hold (R25(d), R117). -/
def Obligations.SumStaysExact : Prop :=
  ∀ s t : State, s.win.IndexInv → s.win.SumExact → step s = .next t →
    (∀ w rest, s.env.inputs = .command w :: rest → t.win.whead ≠ s.win.whead → Temperate t.comp.sample.temp) →
    t.win.SumExact

/-- `WSUM` never becomes an infinity or a NaN: every step keeps it a number of magnitude at most 2^100 (R8). -/
def Obligations.SumBoundedKept : Prop :=
  ∀ s t : State, s.win.SumBounded → step s = .next t → t.win.SumBounded

/-! ### ControlFSM (42_fsm.md) -/

/-- FSTEP: the eight rows of the table of R129, with the state each leads to, the log events in their order, the used-up
edge operand and the indicator latch; it always completes. -/
def Obligations.FstepFollowsTheTable : Prop :=
  decode 0x02000000000 = .ok .fstep ∧
  ∀ s : State, s.port.halt = false →
    let t := s.comp.sample.temp
    let warm : Prop := 2400 ≤ t.toInt
    (s.ctl.fsm = .normal → s.ctl.sw = true →
      exec .fstep s = .next (Rules.afterFstep s .user [⟨2, 2, 0, 2, 0⟩])) ∧
    (s.ctl.fsm = .normal → s.ctl.sw = false → warm →
      exec .fstep s = .next (Rules.afterFstep s .emergency [⟨2, 2, 0, 1, 0⟩])) ∧
    (s.ctl.fsm = .normal → s.ctl.sw = false → ¬warm →
      exec .fstep s = .next (Rules.afterFstep s .normal [⟨0, 0, t, s.comp.sample.press, s.comp.sample.hum⟩])) ∧
    (s.ctl.fsm = .emergency → s.ctl.sw = true →
      exec .fstep s = .next (Rules.afterFstep s .user [⟨2, 2, 1, 2, 0⟩])) ∧
    (s.ctl.fsm = .emergency → s.ctl.sw = false → ¬warm →
      exec .fstep s = .next (Rules.afterFstep s .normal [⟨2, 2, 1, 0, 0⟩])) ∧
    (s.ctl.fsm = .emergency → s.ctl.sw = false → warm →
      exec .fstep s = .next (Rules.afterFstep s .emergency [⟨1, 1, t, 0, 0⟩])) ∧
    (s.ctl.fsm = .user → warm →
      exec .fstep s = .next (Rules.afterFstep s .emergency
        [⟨3, 3, if s.win.avgv then 1 else 0, s.win.avg, 0⟩, ⟨2, 2, 2, 1, 0⟩])) ∧
    (s.ctl.fsm = .user → ¬warm →
      exec .fstep s = .next (Rules.afterFstep s .normal
        [⟨3, 3, if s.win.avgv then 1 else 0, s.win.avg, 0⟩, ⟨2, 2, 2, 0, 0⟩]))

/-- The indicator never feeds back: two machines that differ only in the indicator's parameters and registers do
the same on every instruction but a read of `IND`, in every other register, in the answers and in the events other
than `SetLevel` (R135). -/
def Obligations.IndicatorNeverFeedsBack : Prop :=
  ∀ (i : Instr) (s t u : State) (has : Bool) (bn be bu hn he lv cnt : Byte),
    i ≠ .rd 0x03 → exec i s = .next t →
    exec i { s with
      cfg := { s.cfg with hasIndicator := has, brightNormal := bn, brightEmergency := be, brightUser := bu,
                          halfNormal := hn, halfEmergency := he }
      ctl.level := lv
      ctl.blinkcnt := cnt } = .next u →
    u.comp = t.comp ∧ u.win = t.win ∧ u.port = t.port ∧ u.ctl.fsm = t.ctl.fsm ∧ u.ctl.sw = t.ctl.sw ∧
    u.ctl.edge = t.ctl.edge ∧
    u.env.trace.filter (fun e => !e.isLevel) = t.env.trace.filter (fun e => !e.isLevel)

/-- The User state lasts one step, and the edge operand has no effect on that step (R136). -/
def Obligations.UserStateLastsOneStep : Prop :=
  ∀ s : State, s.port.halt = false → s.ctl.fsm = .user →
    ∃ t, exec .fstep s = .next t ∧ t.ctl.fsm ≠ .user ∧
      ∀ b : Bool, exec .fstep { s with ctl.sw := b } = .next t

/-- ECONS moves the edge flag into the operand and clears the flag, in one action; a second ECONS then reads 0 (R130). -/
def Obligations.EconsReadsAndClears : Prop :=
  decode 0x02100000000 = .ok .econs ∧
  ∀ s : State, s.port.halt = false →
    exec .econs s = .next (Rules.afterStatus { s with ctl.sw := s.ctl.edge, ctl.edge := false } .ok) ∧
    ∃ a b, exec .econs s = .next a ∧ exec .econs a = .next b ∧ a.ctl.sw = s.ctl.edge ∧ b.ctl.sw = false

/-- `EDGE` is set by the edge-set event alone, and cleared only by a reset event or by a command that consumes it
(R29). -/
def Obligations.EdgeChangedOnlyByItsAgents : Prop :=
  ∀ s t : State, step s = .next t →
    (s.ctl.edge = false → t.ctl.edge = true → ∃ rest, s.env.inputs = .edge :: rest) ∧
    (s.ctl.edge = true → t.ctl.edge = false → ∃ inp rest, s.env.inputs = inp :: rest ∧
      (inp = .reset ∨ ∃ w i, inp = .command w ∧ decode w = .ok i ∧ (i = .econs ∨ i = .poll ∨ i = .tickseq)))

/-- An edge-set event before an instruction that neither consumes the flag nor reads a register has the same effect as
one after it (R62, R146). -/
def Obligations.EdgeEventCommutesWithOperations : Prop :=
  ∀ (i : Instr) (s : State), i ≠ .econs → i ≠ .poll → i ≠ .tickseq → (∀ a, i ≠ .rd a) →
    ∃ t, exec i s = .next t ∧ exec i (edgeEvent s) = .next (edgeEvent t)

/-- The FSM state and the indicator latch are changed by FSTEP alone, by itself or inside TICKSEQ and POLL (R27, R30). -/
def Obligations.FsmChangedOnlyByFstep : Prop :=
  ∀ (i : Instr) (s t : State), exec i s = .next t → i ≠ .fstep → i ≠ .tickseq → i ≠ .poll →
    t.ctl.fsm = s.ctl.fsm ∧ t.ctl.level = s.ctl.level ∧ t.ctl.blinkcnt = s.ctl.blinkcnt

/-- With parameters that meet the constraints of R5, every step keeps the indicator latch in its range: `BLINKCNT` below
the half-period of the state, `LEVEL` 0 or one of the three levels, both 0 without an indicator (R30, R134). -/
def Obligations.IndicatorInvKept : Prop :=
  ∀ s t : State, s.cfg.wellFormed = true → IndicatorInv s.cfg s.ctl → step s = .next t → IndicatorInv t.cfg t.ctl

/-! ### SamplingScheduler (43_scheduler.md) -/

/-- INIT reads both blocks and parses them; a failed first read is fatal with nothing written, a failed second one with
the first block written (R141). -/
def Obligations.InitReadsAndParses : Prop :=
  decode 0x03000000000 = .ok .init ∧
  ∀ s : State, s.port.halt = false →
    (∀ b1 b2 r1 r2, s.env.cal1 = .ok b1 :: r1 → s.env.cal2 = .ok b2 :: r2 →
      ∃ c : CalibrationData, Rules.Parsed s.cfg.h45SignedMsb b1 b2 c ∧
        exec .init s = .next (Rules.afterStatus { s with
          comp := { s.comp with cb1 := b1, cb1len := 26, cb2 := b2, cb2len := 7, coef := c, calv := true }
          env := { s.env with
            cal1 := r1
            cal2 := r2
            trace := s.env.trace ++ [.xportRead s.cfg.cal1Addr 26, .xportRead s.cfg.cal2Addr 7] } } .ok)) ∧
    (∀ r1, s.env.cal1 = .err :: r1 →
      exec .init s = .next (Rules.afterFatal { s with
        env := { s.env with cal1 := r1, trace := s.env.trace ++ [.xportRead s.cfg.cal1Addr 26] } }
        0x30 .calibrationError)) ∧
    (∀ b1 r1 r2, s.env.cal1 = .ok b1 :: r1 → s.env.cal2 = .err :: r2 →
      exec .init s = .next (Rules.afterFatal { s with
        comp := { s.comp with cb1 := b1, cb1len := 26 }
        env := { s.env with
          cal1 := r1
          cal2 := r2
          trace := s.env.trace ++ [.xportRead s.cfg.cal1Addr 26, .xportRead s.cfg.cal2Addr 7] } }
        0x30 .calibrationError))

/-- POLL without calibration is fatal and leaves `LASTTICK`; with the tick it has seen it only clears `LAST`; with a new
tick, any different value, it records the tick and does what TICKSEQ does (R142). -/
def Obligations.PollStepsOncePerNewTick : Prop :=
  decode 0x03100000000 = .ok .poll ∧
  ∀ s : State, s.port.halt = false →
    (s.comp.calv = false → exec .poll s = .next (Rules.afterFatal s 0x31 .calibrationError)) ∧
    (s.comp.calv = true → s.env.tick = s.port.lasttick → exec .poll s = .next (Rules.afterStatus s .ok)) ∧
    (s.comp.calv = true → s.env.tick ≠ s.port.lasttick →
      ∃ t, exec .poll s = .next t ∧ exec .tickseq { s with port.lasttick := s.env.tick } = .next t ∧
        t.port.lasttick = s.env.tick ∧ t.port.halt = false)

/-- On a good read TICKSEQ does what RDALL, WUPD, WAVG, ECONS and FSTEP in a row do: the same compensation, window and
FSM registers, the same events but for the responses in between; its status is WUPD's (R140, R143). -/
def Obligations.TickseqIsTheFiveOperations : Prop :=
  ∀ (s : State) (bytes : Vector Byte 8) (rest : List (Answer 8)),
    s.port.halt = false → s.comp.calv = true → s.env.data = .ok bytes :: rest →
    ∃ a b c d e t : State,
      exec .rdall s = .next a ∧ exec .wupd a = .next b ∧ exec .wavg b = .next c ∧ exec .econs c = .next d ∧
      exec .fstep d = .next e ∧ exec .tickseq s = .next t ∧
      t.cfg = e.cfg ∧ t.comp = e.comp ∧ t.win = e.win ∧ t.ctl = e.ctl ∧ t.port = { s.port with last := b.port.last } ∧
      ∃ es, t.env = { s.env with
          data := rest, trace := s.env.trace ++ es ++ [.response (rspWord b.port.last 0)] } ∧
        (∀ x ∈ es, x.isResponse = false) ∧
        e.env.trace.filter (fun x => !x.isResponse) = s.env.trace.filter (fun x => !x.isResponse) ++ es

/-- After a failed read everything else of the tick is skipped: the request and one warning leave, the status is
TransportError, and no register but `LAST` changes; a pending edge stays pending (R144). -/
def Obligations.FailedReadSkipsTheTick : Prop :=
  ∀ (s : State) (rest : List (Answer 8)), s.port.halt = false → s.comp.calv = true → s.env.data = .err :: rest →
    exec .tickseq s = .next { s with
      port.last := .transportError
      env := { s.env with
        data := rest
        trace := s.env.trace ++ [.xportRead s.cfg.dataAddr 8, .emit ⟨1, 5, 0, 0, 0⟩,
          .response (rspWord .transportError 0)] } }

/-- On a full window only the buffering is skipped: the warning leaves, the average is that of the unchanged window, the
edge is consumed, the FSM steps on the fresh sample, and the status is Full (R145). -/
def Obligations.FullWindowTickStillSteps : Prop :=
  ∀ (s : State) (bytes : Vector Byte 8) (rest : List (Answer 8)),
    s.port.halt = false → s.comp.calv = true → s.env.data = .ok bytes :: rest → s.win.wlen.val = 60 →
    ∃ a t : State, exec .rdall s = .next a ∧ exec .tickseq s = .next t ∧ t.comp = a.comp ∧ t.port.last = .full ∧
      t.win = { s.win with avg := sumDiv s.win.wsum 60, avgv := true } ∧ t.ctl.sw = false ∧ t.ctl.edge = false ∧
      t.ctl.fsm = fsmNext s.ctl.fsm s.ctl.edge (hot a.comp.sample.temp) ∧
      Event.emit ⟨1, 4, 0, 0, 0⟩ ∈ t.env.trace

/-- One instruction issues at most one transport read of the sample block; POLL with no new tick issues none (R147,
R186). -/
def Obligations.OneSampleReadPerCommand : Prop :=
  ∀ (i : Instr) (s t : State), exec i s = .next t → i ≠ .init →
    ∃ es, t.env.trace = s.env.trace ++ es ∧ (es.filter Event.isRequest).length ≤ 1 ∧
      (i = .poll → s.env.tick = s.port.lasttick → es.filter Event.isRequest = [])

/-- A transport that never answers: the operation waits, with what it wrote and requested before in place and without a
response, in RDALL, TICKSEQ, POLL and at either read of INIT, and a reset event alone ends the wait (R210, U9; that
the wait is a flag of the model is log entry 6). That a command word presented during the wait is dropped is the
DESIGN CHOICE of log entry 6: R202 only says that it is not accepted. -/
def Obligations.UnansweredReadWaitsForReset : Prop :=
  (∀ s : State, s.port.halt = false → s.comp.calv = true → s.env.data = [] →
    exec .rdall s = .next { s with
      env := { s.env with stalled := true, trace := s.env.trace ++ [.xportRead s.cfg.dataAddr 8] } } ∧
    exec .tickseq s = exec .rdall s ∧
    (s.env.tick ≠ s.port.lasttick → exec .poll s = exec .rdall { s with port.lasttick := s.env.tick })) ∧
  (∀ s : State, s.port.halt = false → s.env.cal1 = [] →
    exec .init s = .next { s with
      env := { s.env with stalled := true, trace := s.env.trace ++ [.xportRead s.cfg.cal1Addr 26] } }) ∧
  (∀ (s : State) (b1 : Vector Byte 26) (r1 : List (Answer 26)),
    s.port.halt = false → s.env.cal1 = .ok b1 :: r1 → s.env.cal2 = [] →
    exec .init s = .next { s with
      comp := { s.comp with cb1 := b1, cb1len := 26 }
      env := { s.env with
        cal1 := r1
        stalled := true
        trace := s.env.trace ++ [.xportRead s.cfg.cal1Addr 26, .xportRead s.cfg.cal2Addr 7] } }) ∧
  (∀ (s : State) (w : CmdWord) (rest : List Input), s.env.stalled = true → s.env.inputs = .command w :: rest →
    step s = .next { s with env.inputs := rest }) ∧
  (∀ s t : State, s.env.stalled = true → step s = .next t → t.env.stalled = false →
    ∃ rest, s.env.inputs = .reset :: rest) ∧
  (∀ (s : State) (rest : List Input), s.env.inputs = .reset :: rest →
    ∃ t, step s = .next t ∧ t.env.stalled = false)

/-! ### Reset (70_reset_and_hazards.md R190, 10_state.md R42) -/

/-- A reset event, halted or waiting or not, puts every register to which R42 gives a value at that value, emits nothing,
and leaves the CORE idle (R42, R190, R192). -/
def Obligations.ResetEventGivesResetValues : Prop :=
  ∀ (s : State) (rest : List Input), s.env.inputs = .reset :: rest →
    ∃ t, step s = .next t ∧ t.ctl.fsm = .normal ∧ t.win.wlen.val = 0 ∧ t.win.whead.val = 0 ∧ t.win.wtail.val = 0 ∧
      t.win.wsum = 0 ∧ t.port.halt = false ∧ t.port.causeOp = 0 ∧ t.port.causeCode = .ok ∧ t.port.last = .ok ∧
      t.comp.calv = false ∧ t.win.avgv = false ∧ t.ctl.sw = false ∧ t.ctl.edge = false ∧ t.ctl.level = 0 ∧
      t.ctl.blinkcnt = 0 ∧ t.port.lasttick = 0 ∧ t.win.widx = 0 ∧ t.comp.cb1len = 0 ∧ t.comp.cb2len = 0 ∧
      t.env.trace = s.env.trace ∧ t.env.stalled = false ∧ t.env.inputs = rest ∧ t.cfg = s.cfg

/-- The registers to which R42 gives a value hold it at `State.reset`. -/
def Obligations.ResetStateHasResetValues : Prop :=
  let t := State.reset
  t.ctl.fsm = .normal ∧ t.win.wlen.val = 0 ∧ t.win.whead.val = 0 ∧ t.win.wtail.val = 0 ∧ t.win.wsum = 0 ∧
  t.port.halt = false ∧ t.port.causeOp = 0 ∧ t.port.causeCode = .ok ∧ t.port.last = .ok ∧ t.comp.calv = false ∧
  t.win.avgv = false ∧ t.ctl.sw = false ∧ t.ctl.edge = false ∧ t.ctl.level = 0 ∧ t.ctl.blinkcnt = 0 ∧
  t.port.lasttick = 0 ∧ t.win.widx = 0 ∧ t.comp.cb1len = 0 ∧ t.comp.cb2len = 0
end

