-- ==== Sys2Proof/Laws/PerInstr.lean ====
section
/-! SUPPORT. Statements about every instruction as syntax, one lemma per constructor. -/

namespace Sys2Proof.Laws.NotReserved

open Sys2Proof

/-- The encoding of the instruction is never of the reserved kind (spec/30_encoding.md rules R71, R76). -/
def Statement (i : Instr) : Prop := fieldKind (encode i) ≠ 0b11

theorem nop : Statement .nop := by unfold Statement; decide
theorem ldcal : Statement .ldcal := by unfold Statement; decide
theorem unpack : Statement .unpack := by unfold Statement; decide
theorem compt : Statement .compt := by unfold Statement; decide
theorem compp : Statement .compp := by unfold Statement; decide
theorem comph : Statement .comph := by unfold Statement; decide
theorem rdall : Statement .rdall := by unfold Statement; decide
theorem wpush : Statement .wpush := by unfold Statement; decide
theorem wpop : Statement .wpop := by unfold Statement; decide
theorem wavg : Statement .wavg := by unfold Statement; decide
theorem wupd : Statement .wupd := by unfold Statement; decide
theorem fstep : Statement .fstep := by unfold Statement; decide
theorem econs : Statement .econs := by unfold Statement; decide
theorem init : Statement .init := by unfold Statement; decide
theorem poll : Statement .poll := by unfold Statement; decide
theorem tickseq : Statement .tickseq := by unfold Statement; decide

/-- The kind of a packed word is the kind packed. -/
theorem fieldKind_packWord (k : BitVec 2) (a : BitVec 8) (d : Word) : fieldKind (packWord k a d) = k := by
  unfold fieldKind packWord
  ext i hi
  simp only [BitVec.getElem_extractLsb', BitVec.getLsbD_append]
  have h1 : ¬(40 + i < 32) := by omega
  have h2 : ¬(40 + i - 32 < 8) := by omega
  have h3 : 40 + i - 32 - 8 = i := by omega
  simp [h1, h2, h3, BitVec.getLsbD_eq_getElem hi]

theorem wr (addr : Addr) (data : Word) : Statement (.wr addr data) := by
  rw [Statement, encode, fieldKind_packWord]; decide

theorem rd (addr : Addr) : Statement (.rd addr) := by
  rw [Statement, encode, fieldKind_packWord]; decide

end Sys2Proof.Laws.NotReserved
end

