-- ==== Sys2Proof/Laws/Decode.lean ====
section
/-! SUPPORT. The fields of a packed word are the fields packed, and a word is the pack of its fields. -/

namespace Sys2Proof

@[simp] theorem fieldKind_packWord (k : BitVec 2) (a : BitVec 8) (d : Word) : fieldKind (packWord k a d) = k :=
  Laws.NotReserved.fieldKind_packWord k a d

@[simp] theorem fieldA_packWord (k : BitVec 2) (a : BitVec 8) (d : Word) : fieldA (packWord k a d) = a := by
  unfold fieldA packWord
  ext i hi
  have h3 : 32 + i - 32 = i := by omega
  simp only [BitVec.getElem_extractLsb', BitVec.getLsbD_append]
  simp [h3, hi]

@[simp] theorem fieldD_packWord (k : BitVec 2) (a : BitVec 8) (d : Word) : fieldD (packWord k a d) = d := by
  unfold fieldD packWord
  ext i hi
  simp only [BitVec.getElem_extractLsb', BitVec.getLsbD_append]
  simp [hi]

/-- A command word is its three fields (spec/30_encoding.md rule R70). -/
theorem packWord_fields (w : CmdWord) : packWord (fieldKind w) (fieldA w) (fieldD w) = w := by
  unfold packWord fieldKind fieldA fieldD
  ext i hi
  simp only [BitVec.getElem_append, BitVec.getElem_extractLsb']
  split
  · simp [BitVec.getLsbD_eq_getElem hi]
  · split
    · rw [show 32 + (i - 32) = i by omega]; simp [BitVec.getLsbD_eq_getElem hi]
    · rw [show 40 + (i - 32 - 8) = i by omega]; simp [BitVec.getLsbD_eq_getElem hi]

end Sys2Proof
end

