-- ==== Sys2Proof/Laws/Float.lean ====
section
/-! SUPPORT. What the packing of a rounded quotient leaves in each field of the pattern: the bits below the sign are the
rounded magnitude, the value is the magnitude's with the sign of the quotient. -/

namespace Sys2Proof.Machine

open Sys2Proof

/-- A rounded magnitude is at most the pattern of infinity. -/
theorem roundMagnitude_le (f : Format) (n d : Nat) : roundMagnitude f n d ≤ f.expMax * 2 ^ f.frac :=
  Nat.min_le_right _ _

theorem roundMagnitude_binary32_lt (n d : Nat) : roundMagnitude binary32 n d < 2 ^ 31 :=
  Nat.lt_of_le_of_lt (roundMagnitude_le _ _ _) (by decide)

theorem roundMagnitude_binary64_lt (n d : Nat) : roundMagnitude binary64 n d < 2 ^ 63 :=
  Nat.lt_of_le_of_lt (roundMagnitude_le _ _ _) (by decide)

/-- A pattern packed from a sign and a magnitude below it, as a number. -/
theorem toNat_signed {n : Nat} (b : Bool) {m : Nat} (h : m < 2 ^ n) :
    (BitVec.ofBool b ++ BitVec.ofNat n m).toNat = b.toNat * 2 ^ n + m := by
  rw [BitVec.toNat_append, BitVec.toNat_ofBool, BitVec.toNat_ofNat, Nat.mod_eq_of_lt h, Nat.shiftLeft_eq,
    Nat.mul_comm, ← Nat.two_pow_add_eq_or_of_lt h]

/-- The magnitude field of `rnd32`. -/
theorem rnd32_magnitude (q : Frac) :
    (rnd32 q).toNat % 2 ^ 31 = roundMagnitude binary32 q.num.natAbs q.den := by
  have h := roundMagnitude_binary32_lt q.num.natAbs q.den
  rw [rnd32, toNat_signed _ h, Nat.add_comm, Nat.add_mul_mod_self_right, Nat.mod_eq_of_lt h]

/-- The magnitude field of `rnd64`. -/
theorem rnd64_magnitude (q : Frac) :
    (rnd64 q).toNat % 2 ^ 63 = roundMagnitude binary64 q.num.natAbs q.den := by
  have h := roundMagnitude_binary64_lt q.num.natAbs q.den
  rw [rnd64, toNat_signed _ h, Nat.add_comm, Nat.add_mul_mod_self_right, Nat.mod_eq_of_lt h]

end Sys2Proof.Machine
end

