-- ==== Sys2Proof/Laws/State.lean ====
section
/-! SUPPORT. One lemma per component of the state and per named update: what the update leaves there. All are true
by rfl and tagged for simp, so that no later proof unfolds a record update. -/

namespace Sys2Proof.Machine

open Sys2Proof

/-! ### What leaves the CORE -/

@[simp] theorem put_cfg (e : Event) (s : State) : (put e s).cfg = s.cfg := rfl
@[simp] theorem put_comp (e : Event) (s : State) : (put e s).comp = s.comp := rfl
@[simp] theorem put_win (e : Event) (s : State) : (put e s).win = s.win := rfl
@[simp] theorem put_ctl (e : Event) (s : State) : (put e s).ctl = s.ctl := rfl
@[simp] theorem put_port (e : Event) (s : State) : (put e s).port = s.port := rfl
@[simp] theorem put_env_inputs (e : Event) (s : State) : (put e s).env.inputs = s.env.inputs := rfl
@[simp] theorem put_env_tick (e : Event) (s : State) : (put e s).env.tick = s.env.tick := rfl
@[simp] theorem put_env_cal1 (e : Event) (s : State) : (put e s).env.cal1 = s.env.cal1 := rfl
@[simp] theorem put_env_cal2 (e : Event) (s : State) : (put e s).env.cal2 = s.env.cal2 := rfl
@[simp] theorem put_env_data (e : Event) (s : State) : (put e s).env.data = s.env.data := rfl
@[simp] theorem put_env_trace (e : Event) (s : State) : (put e s).env.trace = s.env.trace ++ [e] := rfl
@[simp] theorem put_env_stalled (e : Event) (s : State) : (put e s).env.stalled = s.env.stalled := rfl
@[simp] theorem put_env_resets (e : Event) (s : State) : (put e s).env.resets = s.env.resets := rfl

@[simp] theorem putAll_cfg (es : List Event) (s : State) : (putAll es s).cfg = s.cfg := rfl
@[simp] theorem putAll_comp (es : List Event) (s : State) : (putAll es s).comp = s.comp := rfl
@[simp] theorem putAll_win (es : List Event) (s : State) : (putAll es s).win = s.win := rfl
@[simp] theorem putAll_ctl (es : List Event) (s : State) : (putAll es s).ctl = s.ctl := rfl
@[simp] theorem putAll_port (es : List Event) (s : State) : (putAll es s).port = s.port := rfl
@[simp] theorem putAll_env_inputs (es : List Event) (s : State) : (putAll es s).env.inputs = s.env.inputs := rfl
@[simp] theorem putAll_env_tick (es : List Event) (s : State) : (putAll es s).env.tick = s.env.tick := rfl
@[simp] theorem putAll_env_cal1 (es : List Event) (s : State) : (putAll es s).env.cal1 = s.env.cal1 := rfl
@[simp] theorem putAll_env_cal2 (es : List Event) (s : State) : (putAll es s).env.cal2 = s.env.cal2 := rfl
@[simp] theorem putAll_env_data (es : List Event) (s : State) : (putAll es s).env.data = s.env.data := rfl
@[simp] theorem putAll_env_trace (es : List Event) (s : State) : (putAll es s).env.trace = s.env.trace ++ es := rfl
@[simp] theorem putAll_env_stalled (es : List Event) (s : State) : (putAll es s).env.stalled = s.env.stalled := rfl
@[simp] theorem putAll_env_resets (es : List Event) (s : State) : (putAll es s).env.resets = s.env.resets := rfl

@[simp] theorem emit_cfg (k : LogKind) (c : Site) (f g h : Word) (s : State) : (emit k c f g h s).cfg = s.cfg := rfl
@[simp] theorem emit_comp (k : LogKind) (c : Site) (f g h : Word) (s : State) : (emit k c f g h s).comp = s.comp := rfl
@[simp] theorem emit_win (k : LogKind) (c : Site) (f g h : Word) (s : State) : (emit k c f g h s).win = s.win := rfl
@[simp] theorem emit_ctl (k : LogKind) (c : Site) (f g h : Word) (s : State) : (emit k c f g h s).ctl = s.ctl := rfl
@[simp] theorem emit_port (k : LogKind) (c : Site) (f g h : Word) (s : State) : (emit k c f g h s).port = s.port := rfl
@[simp] theorem emit_env_inputs (k : LogKind) (c : Site) (f g h : Word) (s : State) : (emit k c f g h s).env.inputs = s.env.inputs := rfl
@[simp] theorem emit_env_tick (k : LogKind) (c : Site) (f g h : Word) (s : State) : (emit k c f g h s).env.tick = s.env.tick := rfl
@[simp] theorem emit_env_cal1 (k : LogKind) (c : Site) (f g h : Word) (s : State) : (emit k c f g h s).env.cal1 = s.env.cal1 := rfl
@[simp] theorem emit_env_cal2 (k : LogKind) (c : Site) (f g h : Word) (s : State) : (emit k c f g h s).env.cal2 = s.env.cal2 := rfl
@[simp] theorem emit_env_data (k : LogKind) (c : Site) (f g h : Word) (s : State) : (emit k c f g h s).env.data = s.env.data := rfl
@[simp] theorem emit_env_trace (k : LogKind) (c : Site) (f g h : Word) (s : State) : (emit k c f g h s).env.trace = s.env.trace ++ [.emit (logRecord k c f g h)] := rfl
@[simp] theorem emit_env_stalled (k : LogKind) (c : Site) (f g h : Word) (s : State) : (emit k c f g h s).env.stalled = s.env.stalled := rfl
@[simp] theorem emit_env_resets (k : LogKind) (c : Site) (f g h : Word) (s : State) : (emit k c f g h s).env.resets = s.env.resets := rfl

@[simp] theorem respond_cfg (st : Status) (d : Word) (s : State) : (respond st d s).cfg = s.cfg := rfl
@[simp] theorem respond_comp (st : Status) (d : Word) (s : State) : (respond st d s).comp = s.comp := rfl
@[simp] theorem respond_win (st : Status) (d : Word) (s : State) : (respond st d s).win = s.win := rfl
@[simp] theorem respond_ctl (st : Status) (d : Word) (s : State) : (respond st d s).ctl = s.ctl := rfl
@[simp] theorem respond_port (st : Status) (d : Word) (s : State) : (respond st d s).port = s.port := rfl
@[simp] theorem respond_env_inputs (st : Status) (d : Word) (s : State) : (respond st d s).env.inputs = s.env.inputs := rfl
@[simp] theorem respond_env_tick (st : Status) (d : Word) (s : State) : (respond st d s).env.tick = s.env.tick := rfl
@[simp] theorem respond_env_cal1 (st : Status) (d : Word) (s : State) : (respond st d s).env.cal1 = s.env.cal1 := rfl
@[simp] theorem respond_env_cal2 (st : Status) (d : Word) (s : State) : (respond st d s).env.cal2 = s.env.cal2 := rfl
@[simp] theorem respond_env_data (st : Status) (d : Word) (s : State) : (respond st d s).env.data = s.env.data := rfl
@[simp] theorem respond_env_trace (st : Status) (d : Word) (s : State) : (respond st d s).env.trace = s.env.trace ++ [.response (rspWord st d)] := rfl
@[simp] theorem respond_env_stalled (st : Status) (d : Word) (s : State) : (respond st d s).env.stalled = s.env.stalled := rfl
@[simp] theorem respond_env_resets (st : Status) (d : Word) (s : State) : (respond st d s).env.resets = s.env.resets := rfl

@[simp] theorem refuseHalted_cfg (s : State) : (refuseHalted s).cfg = s.cfg := rfl
@[simp] theorem refuseHalted_comp (s : State) : (refuseHalted s).comp = s.comp := rfl
@[simp] theorem refuseHalted_win (s : State) : (refuseHalted s).win = s.win := rfl
@[simp] theorem refuseHalted_ctl (s : State) : (refuseHalted s).ctl = s.ctl := rfl
@[simp] theorem refuseHalted_port (s : State) : (refuseHalted s).port = s.port := rfl
@[simp] theorem refuseHalted_env_inputs (s : State) : (refuseHalted s).env.inputs = s.env.inputs := rfl
@[simp] theorem refuseHalted_env_tick (s : State) : (refuseHalted s).env.tick = s.env.tick := rfl
@[simp] theorem refuseHalted_env_cal1 (s : State) : (refuseHalted s).env.cal1 = s.env.cal1 := rfl
@[simp] theorem refuseHalted_env_cal2 (s : State) : (refuseHalted s).env.cal2 = s.env.cal2 := rfl
@[simp] theorem refuseHalted_env_data (s : State) : (refuseHalted s).env.data = s.env.data := rfl
@[simp] theorem refuseHalted_env_trace (s : State) : (refuseHalted s).env.trace = s.env.trace ++ [.response (rspWord s.port.causeCode 0)] := rfl
@[simp] theorem refuseHalted_env_stalled (s : State) : (refuseHalted s).env.stalled = s.env.stalled := rfl
@[simp] theorem refuseHalted_env_resets (s : State) : (refuseHalted s).env.resets = s.env.resets := rfl

/-! ### The transport reads -/

@[simp] theorem readCal1_answer (s : State) : (readCal1 s).1 = s.env.cal1.head? := rfl
@[simp] theorem readCal1_cfg (s : State) : ((readCal1 s).2).cfg = s.cfg := rfl
@[simp] theorem readCal1_comp (s : State) : ((readCal1 s).2).comp = s.comp := rfl
@[simp] theorem readCal1_win (s : State) : ((readCal1 s).2).win = s.win := rfl
@[simp] theorem readCal1_ctl (s : State) : ((readCal1 s).2).ctl = s.ctl := rfl
@[simp] theorem readCal1_port (s : State) : ((readCal1 s).2).port = s.port := rfl
@[simp] theorem readCal1_env_inputs (s : State) : ((readCal1 s).2).env.inputs = s.env.inputs := rfl
@[simp] theorem readCal1_env_tick (s : State) : ((readCal1 s).2).env.tick = s.env.tick := rfl
@[simp] theorem readCal1_env_cal1 (s : State) : ((readCal1 s).2).env.cal1 = s.env.cal1.tail := rfl
@[simp] theorem readCal1_env_cal2 (s : State) : ((readCal1 s).2).env.cal2 = s.env.cal2 := rfl
@[simp] theorem readCal1_env_data (s : State) : ((readCal1 s).2).env.data = s.env.data := rfl
@[simp] theorem readCal1_env_trace (s : State) : ((readCal1 s).2).env.trace = s.env.trace ++ [.xportRead s.cfg.cal1Addr 26] := rfl
@[simp] theorem readCal1_env_stalled (s : State) : ((readCal1 s).2).env.stalled = s.env.stalled := rfl
@[simp] theorem readCal1_env_resets (s : State) : ((readCal1 s).2).env.resets = s.env.resets := rfl

@[simp] theorem readCal2_answer (s : State) : (readCal2 s).1 = s.env.cal2.head? := rfl
@[simp] theorem readCal2_cfg (s : State) : ((readCal2 s).2).cfg = s.cfg := rfl
@[simp] theorem readCal2_comp (s : State) : ((readCal2 s).2).comp = s.comp := rfl
@[simp] theorem readCal2_win (s : State) : ((readCal2 s).2).win = s.win := rfl
@[simp] theorem readCal2_ctl (s : State) : ((readCal2 s).2).ctl = s.ctl := rfl
@[simp] theorem readCal2_port (s : State) : ((readCal2 s).2).port = s.port := rfl
@[simp] theorem readCal2_env_inputs (s : State) : ((readCal2 s).2).env.inputs = s.env.inputs := rfl
@[simp] theorem readCal2_env_tick (s : State) : ((readCal2 s).2).env.tick = s.env.tick := rfl
@[simp] theorem readCal2_env_cal1 (s : State) : ((readCal2 s).2).env.cal1 = s.env.cal1 := rfl
@[simp] theorem readCal2_env_cal2 (s : State) : ((readCal2 s).2).env.cal2 = s.env.cal2.tail := rfl
@[simp] theorem readCal2_env_data (s : State) : ((readCal2 s).2).env.data = s.env.data := rfl
@[simp] theorem readCal2_env_trace (s : State) : ((readCal2 s).2).env.trace = s.env.trace ++ [.xportRead s.cfg.cal2Addr 7] := rfl
@[simp] theorem readCal2_env_stalled (s : State) : ((readCal2 s).2).env.stalled = s.env.stalled := rfl
@[simp] theorem readCal2_env_resets (s : State) : ((readCal2 s).2).env.resets = s.env.resets := rfl

@[simp] theorem readData_answer (s : State) : (readData s).1 = s.env.data.head? := rfl
@[simp] theorem readData_cfg (s : State) : ((readData s).2).cfg = s.cfg := rfl
@[simp] theorem readData_comp (s : State) : ((readData s).2).comp = s.comp := rfl
@[simp] theorem readData_win (s : State) : ((readData s).2).win = s.win := rfl
@[simp] theorem readData_ctl (s : State) : ((readData s).2).ctl = s.ctl := rfl
@[simp] theorem readData_port (s : State) : ((readData s).2).port = s.port := rfl
@[simp] theorem readData_env_inputs (s : State) : ((readData s).2).env.inputs = s.env.inputs := rfl
@[simp] theorem readData_env_tick (s : State) : ((readData s).2).env.tick = s.env.tick := rfl
@[simp] theorem readData_env_cal1 (s : State) : ((readData s).2).env.cal1 = s.env.cal1 := rfl
@[simp] theorem readData_env_cal2 (s : State) : ((readData s).2).env.cal2 = s.env.cal2 := rfl
@[simp] theorem readData_env_data (s : State) : ((readData s).2).env.data = s.env.data.tail := rfl
@[simp] theorem readData_env_trace (s : State) : ((readData s).2).env.trace = s.env.trace ++ [.xportRead s.cfg.dataAddr 8] := rfl
@[simp] theorem readData_env_stalled (s : State) : ((readData s).2).env.stalled = s.env.stalled := rfl
@[simp] theorem readData_env_resets (s : State) : ((readData s).2).env.resets = s.env.resets := rfl

/-! ### Fatal errors, reset, asynchronous events -/

@[simp] theorem takeFatal_cfg (op : BitVec 8) (e : Fatal) (s : State) : (takeFatal op e s).cfg = s.cfg := rfl
@[simp] theorem takeFatal_comp (op : BitVec 8) (e : Fatal) (s : State) : (takeFatal op e s).comp = s.comp := rfl
@[simp] theorem takeFatal_win (op : BitVec 8) (e : Fatal) (s : State) : (takeFatal op e s).win = s.win := rfl
@[simp] theorem takeFatal_ctl (op : BitVec 8) (e : Fatal) (s : State) : (takeFatal op e s).ctl = s.ctl := rfl
@[simp] theorem takeFatal_env (op : BitVec 8) (e : Fatal) (s : State) : (takeFatal op e s).env = s.env := rfl
@[simp] theorem takeFatal_port_halt (op : BitVec 8) (e : Fatal) (s : State) : (takeFatal op e s).port.halt = true := rfl
@[simp] theorem takeFatal_port_causeOp (op : BitVec 8) (e : Fatal) (s : State) : (takeFatal op e s).port.causeOp = op := rfl
@[simp] theorem takeFatal_port_causeCode (op : BitVec 8) (e : Fatal) (s : State) : (takeFatal op e s).port.causeCode = e.status := rfl
@[simp] theorem takeFatal_port_last (op : BitVec 8) (e : Fatal) (s : State) : (takeFatal op e s).port.last = e.status := rfl
@[simp] theorem takeFatal_port_lasttick (op : BitVec 8) (e : Fatal) (s : State) : (takeFatal op e s).port.lasttick = s.port.lasttick := rfl

@[simp] theorem edgeEvent_cfg (s : State) : (edgeEvent s).cfg = s.cfg := rfl
@[simp] theorem edgeEvent_comp (s : State) : (edgeEvent s).comp = s.comp := rfl
@[simp] theorem edgeEvent_win (s : State) : (edgeEvent s).win = s.win := rfl
@[simp] theorem edgeEvent_port (s : State) : (edgeEvent s).port = s.port := rfl
@[simp] theorem edgeEvent_env (s : State) : (edgeEvent s).env = s.env := rfl
@[simp] theorem edgeEvent_ctl_fsm (s : State) : (edgeEvent s).ctl.fsm = s.ctl.fsm := rfl
@[simp] theorem edgeEvent_ctl_sw (s : State) : (edgeEvent s).ctl.sw = s.ctl.sw := rfl
@[simp] theorem edgeEvent_ctl_edge (s : State) : (edgeEvent s).ctl.edge = true := rfl
@[simp] theorem edgeEvent_ctl_level (s : State) : (edgeEvent s).ctl.level = s.ctl.level := rfl
@[simp] theorem edgeEvent_ctl_blinkcnt (s : State) : (edgeEvent s).ctl.blinkcnt = s.ctl.blinkcnt := rfl

@[simp] theorem resetEvent_cfg (s : State) : (resetEvent s).cfg = s.cfg := rfl
@[simp] theorem resetEvent_ctl (s : State) : (resetEvent s).ctl = State.reset.ctl := rfl
@[simp] theorem resetEvent_port (s : State) : (resetEvent s).port = State.reset.port := rfl
@[simp] theorem resetEvent_comp_calv (s : State) : (resetEvent s).comp.calv = false := rfl
@[simp] theorem resetEvent_comp_coef (s : State) : (resetEvent s).comp.coef = (Config.unspecified s.env.resets).coef := rfl
@[simp] theorem resetEvent_comp_rawP (s : State) : (resetEvent s).comp.rawP = (Config.unspecified s.env.resets).rawP := rfl
@[simp] theorem resetEvent_comp_rawT (s : State) : (resetEvent s).comp.rawT = (Config.unspecified s.env.resets).rawT := rfl
@[simp] theorem resetEvent_comp_rawH (s : State) : (resetEvent s).comp.rawH = (Config.unspecified s.env.resets).rawH := rfl
@[simp] theorem resetEvent_comp_tFine (s : State) : (resetEvent s).comp.tFine = (Config.unspecified s.env.resets).tFine := rfl
@[simp] theorem resetEvent_comp_sample (s : State) : (resetEvent s).comp.sample = (Config.unspecified s.env.resets).sample := rfl
@[simp] theorem resetEvent_comp_cb1len (s : State) : (resetEvent s).comp.cb1len = 0 := rfl
@[simp] theorem resetEvent_comp_cb2len (s : State) : (resetEvent s).comp.cb2len = 0 := rfl
@[simp] theorem resetEvent_comp_cb1 (s : State) : (resetEvent s).comp.cb1 = (Config.unspecified s.env.resets).cb1 := rfl
@[simp] theorem resetEvent_comp_cb2 (s : State) : (resetEvent s).comp.cb2 = (Config.unspecified s.env.resets).cb2 := rfl
@[simp] theorem resetEvent_comp_dbuf (s : State) : (resetEvent s).comp.dbuf = (Config.unspecified s.env.resets).dbuf := rfl
@[simp] theorem resetEvent_win_buf (s : State) : (resetEvent s).win.buf = (Config.unspecified s.env.resets).buf := rfl
@[simp] theorem resetEvent_win_whead (s : State) : (resetEvent s).win.whead = 0 := rfl
@[simp] theorem resetEvent_win_wtail (s : State) : (resetEvent s).win.wtail = 0 := rfl
@[simp] theorem resetEvent_win_wlen (s : State) : (resetEvent s).win.wlen = 0 := rfl
@[simp] theorem resetEvent_win_wsum (s : State) : (resetEvent s).win.wsum = 0 := rfl
@[simp] theorem resetEvent_win_widx (s : State) : (resetEvent s).win.widx = 0 := rfl
@[simp] theorem resetEvent_win_avg (s : State) : (resetEvent s).win.avg = (Config.unspecified s.env.resets).avg := rfl
@[simp] theorem resetEvent_win_avgv (s : State) : (resetEvent s).win.avgv = false := rfl
@[simp] theorem resetEvent_win_popped (s : State) : (resetEvent s).win.popped = (Config.unspecified s.env.resets).popped := rfl
@[simp] theorem resetEvent_env_inputs (s : State) : (resetEvent s).env.inputs = s.env.inputs := rfl
@[simp] theorem resetEvent_env_tick (s : State) : (resetEvent s).env.tick = s.env.tick := rfl
@[simp] theorem resetEvent_env_cal1 (s : State) : (resetEvent s).env.cal1 = s.env.cal1 := rfl
@[simp] theorem resetEvent_env_cal2 (s : State) : (resetEvent s).env.cal2 = s.env.cal2 := rfl
@[simp] theorem resetEvent_env_data (s : State) : (resetEvent s).env.data = s.env.data := rfl
@[simp] theorem resetEvent_env_trace (s : State) : (resetEvent s).env.trace = s.env.trace := rfl
@[simp] theorem resetEvent_env_stalled (s : State) : (resetEvent s).env.stalled = false := rfl
@[simp] theorem resetEvent_env_resets (s : State) : (resetEvent s).env.resets = s.env.resets + 1 := rfl

/-! ### The offered command -/

@[simp] theorem offerCommand_cfg (w : CmdWord) (s : State) : (offerCommand w s).cfg = s.cfg := rfl
@[simp] theorem offerCommand_comp (w : CmdWord) (s : State) : (offerCommand w s).comp = s.comp := rfl
@[simp] theorem offerCommand_win (w : CmdWord) (s : State) : (offerCommand w s).win = s.win := rfl
@[simp] theorem offerCommand_ctl (w : CmdWord) (s : State) : (offerCommand w s).ctl = s.ctl := rfl
@[simp] theorem offerCommand_port (w : CmdWord) (s : State) : (offerCommand w s).port = s.port := rfl
@[simp] theorem offerCommand_env_inputs (w : CmdWord) (s : State) : (offerCommand w s).env.inputs = .command w :: s.env.inputs := rfl
@[simp] theorem offerCommand_env_tick (w : CmdWord) (s : State) : (offerCommand w s).env.tick = s.env.tick := rfl
@[simp] theorem offerCommand_env_cal1 (w : CmdWord) (s : State) : (offerCommand w s).env.cal1 = s.env.cal1 := rfl
@[simp] theorem offerCommand_env_cal2 (w : CmdWord) (s : State) : (offerCommand w s).env.cal2 = s.env.cal2 := rfl
@[simp] theorem offerCommand_env_data (w : CmdWord) (s : State) : (offerCommand w s).env.data = s.env.data := rfl
@[simp] theorem offerCommand_env_trace (w : CmdWord) (s : State) : (offerCommand w s).env.trace = s.env.trace := rfl
@[simp] theorem offerCommand_env_stalled (w : CmdWord) (s : State) : (offerCommand w s).env.stalled = false := rfl
@[simp] theorem offerCommand_env_resets (w : CmdWord) (s : State) : (offerCommand w s).env.resets = s.env.resets := rfl

/-! ### The window -/

@[simp] theorem pushSample_buf (x : Sample) (w : Window) (h : w.wlen.val < 60) : (pushSample x w h).buf = w.buf.set w.whead x := rfl
@[simp] theorem pushSample_whead (x : Sample) (w : Window) (h : w.wlen.val < 60) : (pushSample x w h).whead = nextSlot w.whead := rfl
@[simp] theorem pushSample_wtail (x : Sample) (w : Window) (h : w.wlen.val < 60) : (pushSample x w h).wtail = w.wtail := rfl
@[simp] theorem pushSample_wsum (x : Sample) (w : Window) (h : w.wlen.val < 60) : (pushSample x w h).wsum = sumAdd w.wsum (cdegF32 x.temp) := rfl
@[simp] theorem pushSample_widx (x : Sample) (w : Window) (h : w.wlen.val < 60) : (pushSample x w h).widx = w.widx := rfl
@[simp] theorem pushSample_avg (x : Sample) (w : Window) (h : w.wlen.val < 60) : (pushSample x w h).avg = w.avg := rfl
@[simp] theorem pushSample_avgv (x : Sample) (w : Window) (h : w.wlen.val < 60) : (pushSample x w h).avgv = w.avgv := rfl
@[simp] theorem pushSample_popped (x : Sample) (w : Window) (h : w.wlen.val < 60) : (pushSample x w h).popped = w.popped := rfl
@[simp] theorem pushSample_wlen_val (x : Sample) (w : Window) (h : w.wlen.val < 60) : (pushSample x w h).wlen.val = w.wlen.val + 1 := rfl

@[simp] theorem popSample_buf (w : Window) : (popSample w).buf = w.buf := rfl
@[simp] theorem popSample_whead (w : Window) : (popSample w).whead = w.whead := rfl
@[simp] theorem popSample_wtail (w : Window) : (popSample w).wtail = nextSlot w.wtail := rfl
@[simp] theorem popSample_wsum (w : Window) : (popSample w).wsum = sumSub w.wsum (cdegF32 w.buf[w.wtail].temp) := rfl
@[simp] theorem popSample_widx (w : Window) : (popSample w).widx = w.widx := rfl
@[simp] theorem popSample_avg (w : Window) : (popSample w).avg = w.avg := rfl
@[simp] theorem popSample_avgv (w : Window) : (popSample w).avgv = w.avgv := rfl
@[simp] theorem popSample_popped (w : Window) : (popSample w).popped = w.buf[w.wtail] := rfl
@[simp] theorem popSample_wlen_val (w : Window) : (popSample w).wlen.val = w.wlen.val - 1 := rfl

@[simp] theorem nextSlot_val (i : Fin 60) : (nextSlot i).val = (i.val + 1) % 60 := rfl

end Sys2Proof.Machine
end

