-- ==== Sys2Proof/Laws/Ops.lean ====
section
/-! SUPPORT. For each shared operation, once, everything it can do: how an operation's ending runs on through a
composite, how an EXEC command ends, what an illegal word does, what a transport read answers. -/

namespace Sys2Proof.Machine

open Sys2Proof

/-! ### Endings -/

@[simp] theorem andThen_ret (st : Status) (s : State) (k : Status → State → Result) :
    andThen (ret st s) k = k st s := rfl

@[simp] theorem andThen_raise (e : Fatal) (s : State) (k : Status → State → Result) :
    andThen (raise e s) k = raise e s := rfl

@[simp] theorem andThen_stall (s : State) (k : Status → State → Result) : andThen (stall s) k = stall s := rfl

/-- A result is a return, a raise or a stall. -/
theorem result_cases (r : Result) :
    (∃ st s, r = ret st s) ∨ (∃ e s, r = raise e s) ∨ ∃ s, r = stall s := by
  obtain ⟨ending, s⟩ := r
  cases ending with
  | done st => exact .inl ⟨st, s, rfl⟩
  | raised e => exact .inr (.inl ⟨e, s, rfl⟩)
  | stalled => exact .inr (.inr ⟨s, rfl⟩)

/-- Everything a composite can do after its first sub-step: go on from a return, or end as the sub-step ended. -/
theorem andThen_cases (r : Result) (k : Status → State → Result) :
    (∃ st s, r = ret st s ∧ andThen r k = k st s) ∨ (∃ e s, r = raise e s ∧ andThen r k = raise e s) ∨
      ∃ s, r = stall s ∧ andThen r k = stall s := by
  obtain ⟨st, s, rfl⟩ | ⟨e, s, rfl⟩ | ⟨s, rfl⟩ := result_cases r
  · exact .inl ⟨st, s, rfl, rfl⟩
  · exact .inr (.inl ⟨e, s, rfl, rfl⟩)
  · exact .inr (.inr ⟨s, rfl, rfl⟩)

/-! ### The frame of an EXEC command -/

@[simp] theorem finish_ret (op : BitVec 8) (st : Status) (s : State) :
    finish op (ret st s) = respond st 0 { s with port.last := st } := rfl

@[simp] theorem finish_raise (op : BitVec 8) (e : Fatal) (s : State) :
    finish op (raise e s) = respond e.status 0 (takeFatal op e s) := rfl

@[simp] theorem finish_stall (op : BitVec 8) (s : State) :
    finish op (stall s) = { s with env.stalled := true } := rfl

/-- An EXEC command always has a next state. -/
theorem runExec_next (op : BitVec 8) (body : State → Result) (s : State) : ∃ t, runExec op body s = .next t :=
  ⟨_, rfl⟩

theorem runExec_of_halt {s : State} (h : s.port.halt = true) (op : BitVec 8) (body : State → Result) :
    runExec op body s = .next (refuseHalted s) := by simp [runExec, h]

theorem runExec_of_running {s : State} (h : s.port.halt = false) (op : BitVec 8) (body : State → Result) :
    runExec op body s = .next (finish op (body s)) := by simp [runExec, h]

/-- Everything an EXEC command can do: be refused, return a status, take a fatal error, or wait for ever. -/
theorem runExec_cases {op : BitVec 8} {body : State → Result} {s t : State} (h : runExec op body s = .next t) :
    (s.port.halt = true ∧ t = refuseHalted s) ∨
    (s.port.halt = false ∧ ∃ st u, body s = ret st u ∧ t = respond st 0 { u with port.last := st }) ∨
    (s.port.halt = false ∧ ∃ e u, body s = raise e u ∧ t = respond e.status 0 (takeFatal op e u)) ∨
    (s.port.halt = false ∧ ∃ u, body s = stall u ∧ t = { u with env.stalled := true }) := by
  cases hh : s.port.halt with
  | true =>
    rw [runExec_of_halt hh, Host.Outcome.next.injEq] at h
    exact .inl ⟨rfl, h.symm⟩
  | false =>
    rw [runExec_of_running hh, Host.Outcome.next.injEq] at h
    obtain ⟨st, u, hb⟩ | ⟨e, u, hb⟩ | ⟨u, hb⟩ := result_cases (body s)
    · exact .inr (.inl ⟨rfl, st, u, hb, by rw [← h, hb]; rfl⟩)
    · exact .inr (.inr (.inl ⟨rfl, e, u, hb, by rw [← h, hb]; rfl⟩))
    · exact .inr (.inr (.inr ⟨rfl, u, hb, by rw [← h, hb]; rfl⟩))

/-! ### Illegal words -/

theorem illegalCommand_of_halt {s : State} (h : s.port.halt = true) :
    illegalCommand s = respond .illegalCommand 0 s := by simp [illegalCommand, h]

theorem illegalCommand_of_running {s : State} (h : s.port.halt = false) :
    illegalCommand s = respond .illegalCommand 0 { s with port.last := .illegalCommand } := by
  simp [illegalCommand, h]

/-! ### The transport -/

theorem readCal1_of_nil {s : State} (h : s.env.cal1 = []) : readCal1 s = (none, (readCal1 s).2) := by
  simp [readCal1, h]

theorem readCal1_of_cons {s : State} {a : Answer 26} {r : List (Answer 26)} (h : s.env.cal1 = a :: r) :
    readCal1 s = (some a, (readCal1 s).2) := by simp [readCal1, h]

theorem readCal2_of_nil {s : State} (h : s.env.cal2 = []) : readCal2 s = (none, (readCal2 s).2) := by
  simp [readCal2, h]

theorem readCal2_of_cons {s : State} {a : Answer 7} {r : List (Answer 7)} (h : s.env.cal2 = a :: r) :
    readCal2 s = (some a, (readCal2 s).2) := by simp [readCal2, h]

theorem readData_of_nil {s : State} (h : s.env.data = []) : readData s = (none, (readData s).2) := by
  simp [readData, h]

theorem readData_of_cons {s : State} {a : Answer 8} {r : List (Answer 8)} (h : s.env.data = a :: r) :
    readData s = (some a, (readData s).2) := by simp [readData, h]

end Sys2Proof.Machine
end

