-- ==== Sys2Proof/Laws/Operations.lean ====
section
/-! SUPPORT. For the pseudocode of each operation, once, everything it can do. The bare operations come first, the
composite ones after them in the same terms. -/

namespace Sys2Proof.Machine

open Sys2Proof

/-! ### CompensationEngine -/

theorem needCalibration_of_calv {s : State} (h : s.comp.calv = true) (k : State → Result) :
    needCalibration s k = k s := by simp [needCalibration, h]

theorem needCalibration_of_not_calv {s : State} (h : s.comp.calv = false) (k : State → Result) :
    needCalibration s k = raise .calibrationError s := by simp [needCalibration, h]

theorem calLengthsOk_iff (c : Compensation) : calLengthsOk c = true ↔ c.cb1len = 26 ∧ c.cb2len = 7 := by
  simp [calLengthsOk]

/-- LDCAL parses, or raises CalibrationError with nothing written. -/
theorem opLdcal_cases (s : State) :
    (calLengthsOk s.comp = true ∧ opLdcal s = ret .ok { s with
      comp.coef := parseCalibration s.cfg.h45SignedMsb s.comp.cb1 s.comp.cb2
      comp.calv := true }) ∨
    (calLengthsOk s.comp = false ∧ opLdcal s = raise .calibrationError s) := by
  cases h : calLengthsOk s.comp with
  | true => exact .inl ⟨rfl, by simp [opLdcal, h]⟩
  | false => exact .inr ⟨rfl, by simp [opLdcal, h]⟩

/-- With a calibration, the lines of RDALL after the read leave the compensation registers at one value and touch
nothing else. -/
theorem compensateBlock_of_calv {s : State} (h : s.comp.calv = true) (bytes : Vector Byte 8) :
    ∃ c : Compensation, compensateBlock bytes s = ret .ok { s with comp := c } ∧
      c.calv = true ∧ c.coef = s.comp.coef ∧ c.dbuf = bytes ∧
      c.cb1 = s.comp.cb1 ∧ c.cb2 = s.comp.cb2 ∧ c.cb1len = s.comp.cb1len ∧ c.cb2len = s.comp.cb2len := by
  simp only [compensateBlock, opUnpack, andThen_ret, opCompt, opCompp, opComph, needCalibration, h, if_true]
  exact ⟨_, rfl, rfl, rfl, rfl, rfl, rfl, rfl, rfl⟩

/-- Everything RDALL can do: raise without calibration; wait for ever; return TransportError with nothing written;
return OK with only compensation registers written. -/
theorem opRdall_cases (s : State) :
    (s.comp.calv = false ∧ opRdall s = raise .calibrationError s) ∨
    (s.comp.calv = true ∧ s.env.data = [] ∧ opRdall s = stall (readData s).2) ∨
    (s.comp.calv = true ∧ (∃ r, s.env.data = .err :: r) ∧ opRdall s = ret .transportError (readData s).2) ∨
    (s.comp.calv = true ∧ ∃ bytes r c, s.env.data = .ok bytes :: r ∧
      opRdall s = ret .ok { (readData s).2 with comp := c } ∧ c.calv = true ∧ c.coef = s.comp.coef) := by
  cases hc : s.comp.calv with
  | false => exact .inl ⟨rfl, needCalibration_of_not_calv hc _⟩
  | true =>
    refine .inr ?_
    cases hd : s.env.data with
    | nil => exact .inl ⟨rfl, rfl, by rw [opRdall, needCalibration_of_calv hc, readData_of_nil hd]⟩
    | cons a r =>
      refine .inr ?_
      cases a with
      | err => exact .inl ⟨rfl, ⟨r, rfl⟩, by rw [opRdall, needCalibration_of_calv hc, readData_of_cons hd]⟩
      | ok bytes =>
        obtain ⟨c, h, h1, h2, -⟩ := compensateBlock_of_calv (s := (readData s).2) hc bytes
        exact .inr ⟨rfl, bytes, r, c, rfl, by
          rw [opRdall, needCalibration_of_calv hc, readData_of_cons hd]; exact h, h1, h2⟩

/-! ### MovingAverageWindow -/

theorem opWpush_of_lt {s : State} (h : s.win.wlen.val < 60) :
    opWpush s = ret .ok { s with win := pushSample s.comp.sample s.win h } := by simp [opWpush, h]

theorem opWpush_of_full {s : State} (h : s.win.wlen.val = 60) : opWpush s = ret .full s := by simp [opWpush, h]

theorem opWpop_of_empty {s : State} (h : s.win.wlen.val = 0) : opWpop s = raise .empty s := by simp [opWpop, h]

theorem opWpop_of_ne {s : State} (h : s.win.wlen.val ≠ 0) : opWpop s = ret .ok { s with win := popSample s.win } := by
  simp [opWpop, h]

theorem opWavg_of_empty {s : State} (h : s.win.wlen.val = 0) : opWavg s = ret .ok { s with win.avgv := false } := by
  simp [opWavg, h]

theorem opWavg_of_ne {s : State} (h : s.win.wlen.val ≠ 0) :
    opWavg s = ret .ok { s with win.avg := sumDiv s.win.wsum s.win.wlen.val, win.avgv := true } := by
  simp [opWavg, h]

/-- Everything WUPD can do: push; push and evict; warn and drop. It never raises (41_window.md rule R118). -/
theorem opWupd_cases (s : State) :
    (∃ h : s.win.wlen.val < 59,
      opWupd s = ret .ok { s with win := pushSample s.comp.sample s.win (by omega) }) ∨
    (∃ h : s.win.wlen.val = 59,
      opWupd s = ret .ok { s with win := popSample (pushSample s.comp.sample s.win (by omega)) }) ∨
    (s.win.wlen.val = 60 ∧ opWupd s = ret .full (emit .warning .warnFull 0 0 0 s)) := by
  have hb := s.win.wlen.isLt
  by_cases h60 : s.win.wlen.val = 60
  · exact .inr (.inr ⟨h60, by simp [opWupd, opWpush_of_full h60]⟩)
  · have hlt : s.win.wlen.val < 60 := by omega
    by_cases h59 : s.win.wlen.val = 59
    · refine .inr (.inl ⟨h59, ?_⟩)
      have hl : (pushSample s.comp.sample s.win hlt).wlen.val = 60 := by simp [pushSample, h59]
      rw [opWupd, opWpush_of_lt hlt, andThen_ret, if_neg (by decide), if_pos hl, opWpop_of_ne (by simp)]
      rfl
    · have hl : ¬(pushSample s.comp.sample s.win hlt).wlen.val = 60 := by simp only [pushSample]; omega
      refine .inl ⟨by omega, ?_⟩
      rw [opWupd, opWpush_of_lt hlt, andThen_ret, if_neg (by decide), if_neg hl]

/-! ### ControlFSM -/

/-- The indicator update either toggles or enters a level, or only counts. -/
theorem indicatorUpdate_cases (cur next : FsmState) (s : State) :
    (next ≠ cur ∧ indicatorUpdate cur next s =
      put (.setLevel (bright s.cfg next)) { s with ctl.blinkcnt := 0, ctl.level := bright s.cfg next }) ∨
    (next = cur ∧ half s.cfg cur ≤ s.ctl.blinkcnt + 1 ∧ ∃ v, (v = 0 ∨ v = bright s.cfg cur) ∧
      indicatorUpdate cur next s = put (.setLevel v) { s with ctl.blinkcnt := 0, ctl.level := v }) ∨
    (next = cur ∧ ¬half s.cfg cur ≤ s.ctl.blinkcnt + 1 ∧
      indicatorUpdate cur next s = { s with ctl.blinkcnt := s.ctl.blinkcnt + 1 }) := by
  by_cases hn : next = cur
  · refine .inr ?_
    by_cases hh : half s.cfg cur ≤ s.ctl.blinkcnt + 1
    · refine .inl ⟨hn, hh, _, ?_, by rw [indicatorUpdate, if_pos hn]; simp only [if_pos hh]; rfl⟩
      split <;> simp
    · exact .inr ⟨hn, hh, by rw [indicatorUpdate, if_pos hn]; simp only [if_neg hh]⟩
  · exact .inl ⟨hn, by rw [indicatorUpdate, if_neg hn]⟩

/-- FSTEP leaves the compensation, window and port registers, the edge flag and the parameters alone, uses up the
edge operand, goes where the table says, and only adds to the trace. -/
theorem opFstep_spec (s : State) :
    ∃ (lv cnt : Byte) (es : List Event),
      opFstep s = ret .ok { s with
        ctl := { s.ctl with
          fsm := fsmNext s.ctl.fsm s.ctl.sw (hot s.comp.sample.temp), sw := false, level := lv, blinkcnt := cnt }
        env.trace := s.env.trace ++ es } := by
  unfold opFstep
  by_cases hi : s.cfg.hasIndicator = true
  · simp only [hi, if_true]
    obtain ⟨-, h⟩ | ⟨-, -, v, -, h⟩ | ⟨-, -, h⟩ :=
      indicatorUpdate_cases s.ctl.fsm (fsmTransition s).ctl.fsm (fsmTransition s)
    · rw [h]; exact ⟨_, _, _ ++ _, by rw [← List.append_assoc]; rfl⟩
    · rw [h]; exact ⟨_, _, _ ++ _, by rw [← List.append_assoc]; rfl⟩
    · rw [h]; exact ⟨_, _, _, rfl⟩
  · simp only [hi]
    exact ⟨_, _, _, rfl⟩

/-! ### SamplingScheduler -/

/-- After a good read a tick always runs to its end, and its status is OK or Full (43_scheduler.md rules R143, R145). -/
theorem tickAfterSample_returns (s : State) :
    ∃ st t, tickAfterSample s = ret st t ∧ (st = .ok ∨ st = .full) := by
  have key : ∀ (st : Status) (u : State), ∃ t, (andThen (opWavg u) fun _ s => andThen (opEcons s) fun _ s =>
      andThen (opFstep s) fun _ s => ret st s) = ret st t := by
    intro st u
    by_cases h0 : u.win.wlen.val = 0
    · rw [opWavg_of_empty h0]; exact ⟨_, rfl⟩
    · rw [opWavg_of_ne h0]; exact ⟨_, rfl⟩
  obtain ⟨_, h⟩ | ⟨_, h⟩ | ⟨_, h⟩ := opWupd_cases s
  · rw [tickAfterSample, h, andThen_ret]; obtain ⟨t, ht⟩ := key .ok _; exact ⟨.ok, t, ht, .inl rfl⟩
  · rw [tickAfterSample, h, andThen_ret]; obtain ⟨t, ht⟩ := key .ok _; exact ⟨.ok, t, ht, .inl rfl⟩
  · rw [tickAfterSample, h, andThen_ret]; obtain ⟨t, ht⟩ := key .full _; exact ⟨.full, t, ht, .inr rfl⟩

/-- Everything TICKSEQ can do: what RDALL does that is no OK return, with a warning after a TransportError, or the
steps after a good read. -/
theorem opTickseq_cases (s : State) :
    (s.comp.calv = false ∧ opTickseq s = raise .calibrationError s) ∨
    (s.comp.calv = true ∧ s.env.data = [] ∧ opTickseq s = stall (readData s).2) ∨
    (s.comp.calv = true ∧ (∃ r, s.env.data = .err :: r) ∧
      opTickseq s = ret .transportError (emit .warning .warnXport 0 0 0 (readData s).2)) ∨
    (s.comp.calv = true ∧ ∃ bytes r c, s.env.data = .ok bytes :: r ∧
      opRdall s = ret .ok { (readData s).2 with comp := c } ∧ c.calv = true ∧ c.coef = s.comp.coef ∧
      opTickseq s = tickAfterSample { (readData s).2 with comp := c }) := by
  obtain ⟨hc, h⟩ | ⟨hc, hd, h⟩ | ⟨hc, hd, h⟩ | ⟨hc, b, r, c, hd, h, h1, h2⟩ := opRdall_cases s
  · exact .inl ⟨hc, by rw [opTickseq, h]; rfl⟩
  · exact .inr (.inl ⟨hc, hd, by rw [opTickseq, h]; rfl⟩)
  · exact .inr (.inr (.inl ⟨hc, hd, by rw [opTickseq, h]; rfl⟩))
  · exact .inr (.inr (.inr ⟨hc, b, r, c, hd, h, h1, h2, by rw [opTickseq, h]; rfl⟩))

/-- Everything POLL can do. -/
theorem opPoll_cases (s : State) :
    (s.comp.calv = false ∧ opPoll s = raise .calibrationError s) ∨
    (s.comp.calv = true ∧ s.env.tick = s.port.lasttick ∧ opPoll s = ret .ok s) ∨
    (s.comp.calv = true ∧ s.env.tick ≠ s.port.lasttick ∧
      opPoll s = opTickseq { s with port.lasttick := s.env.tick }) := by
  cases hc : s.comp.calv with
  | false => exact .inl ⟨rfl, needCalibration_of_not_calv hc _⟩
  | true =>
    by_cases ht : s.env.tick = s.port.lasttick
    · exact .inr (.inl ⟨rfl, ht, by rw [opPoll, needCalibration_of_calv hc, if_pos ht]⟩)
    · exact .inr (.inr ⟨rfl, ht, by rw [opPoll, needCalibration_of_calv hc, if_neg ht]⟩)

/-- Everything INIT can do; a failed read is a CalibrationError (43_scheduler.md rule R141). -/
theorem opInit_cases (s : State) :
    (s.env.cal1 = [] ∧ opInit s = stall (readCal1 s).2) ∨
    ((∃ r, s.env.cal1 = .err :: r) ∧ opInit s = raise .calibrationError (readCal1 s).2) ∨
    (∃ b r, s.env.cal1 = .ok b :: r ∧
      opInit s = initSecondBlock { (readCal1 s).2 with comp.cb1 := b, comp.cb1len := 26 }) := by
  cases h : s.env.cal1 with
  | nil => exact .inl ⟨rfl, by rw [opInit, readCal1_of_nil h]⟩
  | cons a r =>
    cases a with
    | err => exact .inr (.inl ⟨⟨r, rfl⟩, by rw [opInit, readCal1_of_cons h]⟩)
    | ok b => exact .inr (.inr ⟨b, r, rfl, by rw [opInit, readCal1_of_cons h]⟩)

/-- Everything INIT can do from the second read on, the first block being stored. -/
theorem initSecondBlock_cases {s : State} (hl : s.comp.cb1len = 26) :
    (s.env.cal2 = [] ∧ initSecondBlock s = stall (readCal2 s).2) ∨
    ((∃ r, s.env.cal2 = .err :: r) ∧ initSecondBlock s = raise .calibrationError (readCal2 s).2) ∨
    (∃ b r, s.env.cal2 = .ok b :: r ∧
      initSecondBlock s = ret .ok { (readCal2 s).2 with
        comp.cb2 := b, comp.cb2len := 7
        comp.coef := parseCalibration s.cfg.h45SignedMsb s.comp.cb1 b
        comp.calv := true }) := by
  cases h : s.env.cal2 with
  | nil => exact .inl ⟨rfl, by rw [initSecondBlock, readCal2_of_nil h]⟩
  | cons a r =>
    cases a with
    | err => exact .inr (.inl ⟨⟨r, rfl⟩, by rw [initSecondBlock, readCal2_of_cons h]⟩)
    | ok b =>
      refine .inr (.inr ⟨b, r, rfl, ?_⟩)
      rw [initSecondBlock, readCal2_of_cons h]
      simp [opLdcal, calLengthsOk, hl]

/-! ### Inputs -/

/-- Everything a step can do: idle, or deal with the first input. -/
theorem nextInput_cases (s : State) :
    (s.env.inputs = [] ∧ nextInput s = .next s) ∨
    ∃ inp rest, s.env.inputs = inp :: rest ∧ nextInput s = acceptInput inp { s with env.inputs := rest } := by
  unfold nextInput
  cases h : s.env.inputs with
  | nil => exact .inl ⟨rfl, rfl⟩
  | cons inp rest => exact .inr ⟨inp, rest, rfl, rfl⟩

theorem commandCycle_of_ok {w : CmdWord} {i : Instr} (h : decode w = .ok i) (s : State) :
    commandCycle w s = exec i s := by simp [commandCycle, h]

theorem commandCycle_of_error {w : CmdWord} {e : Illegal} (h : decode w = .error e) (s : State) :
    commandCycle w s = .next (illegalCommand s) := by simp [commandCycle, h]

end Sys2Proof.Machine
end

