-- ==== Sys2Proof/Tests/Slice0.lean ====
section
/-! SUPPORT. Small checks of the model: the checks of WellFormed refuse ill-formed terms, words written out from the
encoding tables decode, one step of each instruction gives what spec/95_test_vectors.md or a hand calculation from the
rules gives, and for each statement with hypotheses a state that meets them. -/

namespace Sys2Proof.Tests

open Sys2Proof Sys2Proof.Machine

/- One theorem after another: checked at the same time, so many would each take a thread. -/
set_option Elab.async false

/-! ### Helpers -/

/-- The state an outcome goes on in. -/
def after : Host.Outcome State Fault Refusal → Option State
  | .next t    => some t
  | .fault _   => none
  | .refused _ => none

/-- The coefficients of the example calibration (95_test_vectors.md). -/
def exampleCoef : CalibrationData where
  t1 := 27504
  t2 := 26435
  t3 := BitVec.ofInt 16 (-1000)
  p1 := 36477
  p2 := BitVec.ofInt 16 (-10685)
  p3 := 3024
  p4 := 2855
  p5 := 140
  p6 := BitVec.ofInt 16 (-7)
  p7 := 15500
  p8 := BitVec.ofInt 16 (-14600)
  p9 := 6000
  h1 := 75
  h2 := 367
  h3 := 0
  h4 := 301
  h5 := 50
  h6 := 30

/-- `CB1` of the example calibration. -/
def exampleBlock1 : Vector Byte 26 :=
  #v[0x70, 0x6B, 0x43, 0x67, 0x18, 0xFC, 0x7D, 0x8E, 0x43, 0xD6, 0xD0, 0x0B, 0x27, 0x0B, 0x8C, 0x00, 0xF9, 0xFF, 0x8C,
     0x3C, 0xF8, 0xC6, 0x70, 0x17, 0x00, 0x4B]

/-- `CB2` of the example calibration. -/
def exampleBlock2 : Vector Byte 7 := #v[0x6F, 0x01, 0x00, 0x12, 0x2D, 0x03, 0x1E]

/-- `DBUF` of the example block. -/
def exampleBytes : Vector Byte 8 := #v[0x65, 0x5A, 0xC0, 0x7E, 0xED, 0x00, 0x75, 0x30]

/-- The reset state with the example calibration. -/
def ready : State := { State.reset with comp.calv := true, comp.coef := exampleCoef }

/-- The reset state with both blocks in place, the second one with the given H5 byte. -/
def blocks (h5 : Byte) : State :=
  { State.reset with
    comp := { State.reset.comp with
      cb1len := 26, cb2len := 7, cb1 := exampleBlock1, cb2 := exampleBlock2.set 5 h5 } }

/-- The calibrated state with the given answers to the coming reads of the sample block. -/
def answering (l : List (Answer 8)) : State := { ready with env.data := l }

/-- The reset state with one input to come. -/
def arriving (inp : Input) : State := { State.reset with env.inputs := [inp] }

/-- The state halted by a WPOP of an empty window (vector V24). -/
def halted : State :=
  { State.reset with
    port := { halt := true, causeOp := 0x11, causeCode := .empty, last := .empty, lasttick := 0 } }

/-- The reset state with a window of `n` zero samples from slot 0 on. -/
def holding (n : Nat) (h : n < 61) : State :=
  { State.reset with win := { State.reset.win with whead := ⟨n % 60, Nat.mod_lt _ (by decide)⟩, wlen := ⟨n, h⟩ } }

/-- The reset state with the control machine in `f`, edge operand `sw` and temperature `t`. -/
def control (f : FsmState) (sw : Bool) (t : Int) : State :=
  { State.reset with
    comp := { State.reset.comp with sample := ⟨BitVec.ofInt 32 t, 0, 0⟩ }
    ctl := { State.reset.ctl with fsm := f, sw := sw } }

/-- A state in which an operation waits for the transport. -/
def waiting (l : List Input) : State := { State.reset with env.stalled := true, env.inputs := l }

/-! ### WellFormed -/

theorem test_params_accepts_defaults : Config.defaultParams.wellFormed = true := by decide
theorem test_params_refuses_dark_normal : Config.Params.wellFormed { Config.defaultParams with brightNormal := 0 } = false := by
  decide
theorem test_params_refuses_dark_emergency :
    Config.Params.wellFormed { Config.defaultParams with brightEmergency := 0 } = false := by decide
theorem test_params_refuses_dark_user : Config.Params.wellFormed { Config.defaultParams with brightUser := 0 } = false := by
  decide
theorem test_params_refuses_user_as_normal :
    Config.Params.wellFormed { Config.defaultParams with brightUser := 64 } = false := by decide
theorem test_params_refuses_user_as_emergency :
    Config.Params.wellFormed { Config.defaultParams with brightUser := 255 } = false := by decide
theorem test_params_refuses_no_half_emergency :
    Config.Params.wellFormed { Config.defaultParams with halfEmergency := 0 } = false := by decide
theorem test_params_refuses_equal_halves :
    Config.Params.wellFormed { Config.defaultParams with halfNormal := 3, halfEmergency := 3 } = false := by decide

theorem test_line_refuses_wr_as_exec : (Line.exec (.wr 0x14 0)).wellFormed = false := by decide
theorem test_line_refuses_wide_wr_address : (Line.wr (.addr 256) 0).wellFormed = false := by decide
theorem test_line_refuses_wide_rd_address : (Line.rd (.addr 256)).wellFormed = false := by decide
theorem test_line_refuses_wide_value : (Line.wr (.name .temp) 4294967296).wellFormed = false := by decide
theorem test_line_refuses_low_value : (Line.wr (.name .temp) (-2147483649)).wellFormed = false := by decide
theorem test_line_refuses_empty_ldbuf : (Line.ldbuf .dbuf []).wellFormed = false := by decide
theorem test_line_refuses_long_ldbuf : (Line.ldbuf .cb2 [0, 0, 0, 0, 0, 0, 0, 0]).wellFormed = false := by decide
theorem test_line_refuses_wide_sample : (Line.setsample 0 4294967296 0).wellFormed = false := by decide
theorem test_line_refuses_wide_feed : (Line.feed 4294967296).wellFormed = false := by decide
theorem test_line_refuses_command_event : (Line.event (.command 0)).wellFormed = false := by decide

/-! ### Decoding: words written out from the tables of 30_encoding.md rules R70 to R74 -/

theorem test_decode_nop : decode 0b000000000000000000000000000000000000000000 = .ok .nop := by decide
theorem test_decode_ldcal : decode 0b000000000100000000000000000000000000000000 = .ok .ldcal := by decide
theorem test_decode_unpack : decode 0b000000001000000000000000000000000000000000 = .ok .unpack := by decide
theorem test_decode_compt : decode 0x00300000000 = .ok .compt := by decide
theorem test_decode_compp : decode 0x00400000000 = .ok .compp := by decide
theorem test_decode_comph : decode 0x00500000000 = .ok .comph := by decide
theorem test_decode_rdall : decode 0x00600000000 = .ok .rdall := by decide
theorem test_decode_wpush : decode 0b000001000000000000000000000000000000000000 = .ok .wpush := by decide
theorem test_decode_wpop : decode 0x01100000000 = .ok .wpop := by decide
theorem test_decode_wavg : decode 0x01200000000 = .ok .wavg := by decide
theorem test_decode_wupd : decode 0x01300000000 = .ok .wupd := by decide
theorem test_decode_fstep : decode 0b000010000000000000000000000000000000000000 = .ok .fstep := by decide
theorem test_decode_econs : decode 0x02100000000 = .ok .econs := by decide
theorem test_decode_init : decode 0b000011000000000000000000000000000000000000 = .ok .init := by decide
theorem test_decode_poll : decode 0x03100000000 = .ok .poll := by decide
theorem test_decode_tickseq : decode 0x03200000000 = .ok .tickseq := by decide
/-- `WR TEMP, 2000` of program P3. -/
theorem test_decode_wr : decode 0b010001010000000000000000000000011111010000 = .ok (.wr 0x14 2000) := by decide
/-- `RD STATUS` and `RD AVG` of the programs; the ignored field of an R word is ignored (R73). -/
theorem test_decode_rd : decode 0b100001101000000000000000000000000000000000 = .ok (.rd 0x1A) ∧
    decode 0x21A00000001 = .ok (.rd 0x1A) := by decide
/-- The illegal words of vector V22. -/
theorem test_decode_illegal : decode 0x30000000000 = .error .reservedKind ∧
    decode 0x00700000000 = .error (.unlistedOp 0x07) ∧ decode 0x0FF00000000 = .error (.unlistedOp 0xFF) := by decide
/-- The bits as the opcode table numbers them, in whole bytes. -/
theorem test_decodeTableWord : decodeTableWord 48 0x11400000960 = some (.wr 0x14 2400) ∧
    decodeTableWord 48 0x30000000000 = none := by decide
/-- `WR CB2[6], 0x1E` of program P1, as its line, its word and its hexadecimal digits. -/
theorem test_line_wr : (Line.wr (.name (.cb2 6)) 0x1E).inputs = [.command 0x1860000001E] ∧
    hexDigits 0x1860000001E = [1, 8, 6, 0, 0, 0, 0, 0, 0, 1, 14] := by decide

/-! ### Floating point (95_test_vectors.md section 2.5) -/

theorem test_cdeg_pos : cdegF32 2508 = 0x41C8A3D7 ∧ cdegF32 2399 = 0x41BFEB85 ∧ cdegF32 0x7FFFFFFF = 0x4BA3D70A := by
  decide +kernel
theorem test_cdeg_neg : cdegF32 (BitVec.ofInt 32 (-1)) = 0xBC23D70A ∧ cdegF32 0x80000000 = 0xCBA3D70A := by decide +kernel
theorem test_other_forms : q8HpaF32 0xFFFFFFFF = 0x4823D70A ∧ q10RhF32 102400 = 0x42C80000 ∧ q8HpaF32 0 = 0 := by
  decide +kernel

/-! ### One step of each instruction -/

/-- V22: the word 0x00000000001 is a NOP; it clears `LAST`. -/
theorem test_nop : (after (step { arriving (.command 0x00000000001) with port.last := .full })).map
    (fun t => (t.port.last, t.env.trace)) = some (.ok, [.response 0]) := by decide

/-- V1, V3: the parsed coefficients. -/
theorem test_ldcal : (after (exec .ldcal (blocks 0x03))).map (fun t => (t.comp.coef, t.comp.calv)) =
    some (exampleCoef, true) := by decide +kernel
/-- V4: both readings of the H5 byte 0x80. -/
theorem test_ldcal_h5 : (after (exec .ldcal (blocks 0x80))).map (·.comp.coef.h5.toInt) = some 2050 ∧
    (after (exec .ldcal { blocks 0x80 with cfg.h45SignedMsb := true })).map (·.comp.coef.h5.toInt) = some (-2046) := by
  decide +kernel

/-- V5: the example block. -/
theorem test_unpack : (after (exec .unpack { State.reset with comp.dbuf := exampleBytes })).map
    (fun t => (t.comp.rawP, t.comp.rawT, t.comp.rawH)) = some (415148, 519888, 30000) := by decide +kernel

/-- Section 2.2, first row. -/
theorem test_compt : (after (exec .compt { ready with comp.rawT := 519888 })).map
    (fun t => (t.comp.tFine.toInt, t.comp.sample.temp.toInt)) = some (128422, 2508) := by decide +kernel
/-- Section 2.2, the wrap case. -/
theorem test_compt_wraps : (after (exec .compt { ready with
      comp := { ready.comp with
        rawT := 1048575, coef := { exampleCoef with t1 := 0, t2 := 32767, t3 := 0 } } })).map
    (fun t => (t.comp.tFine.toInt, t.comp.sample.temp.toInt)) = some (-80, -2) := by decide +kernel

/-- V6p. -/
theorem test_compp : (after (exec .compp { ready with comp := { ready.comp with tFine := 128422, rawP := 415148 } })).map
    (·.comp.sample.press.toNat) = some 25767233 := by decide +kernel
/-- V8: the zero guard with `P1 ≠ 0`. -/
theorem test_compp_zero_guard : (after (exec .compp { ready with
      comp := { ready.comp with
        tFine := 1176576, coef := { exampleCoef with p1 := 1, p2 := 0x8000, p3 := 0 }, sample := ⟨0, 7, 0⟩ } })).map
    (fun t => (t.comp.sample.press, t.port.last)) = some (0, .ok) := by decide +kernel

/-- Section 2.4, the row 30000. -/
theorem test_comph : (after (exec .comph { ready with comp := { ready.comp with tFine := 128422, rawH := 30000 } })).map
    (·.comp.sample.hum.toNat) = some 61519 := by decide +kernel
/-- V6: the upper clamp. -/
theorem test_comph_clamps : (after (exec .comph { ready with
      comp := { ready.comp with tFine := 128422, rawH := 65535 } })).map
    (·.comp.sample.hum.toNat) = some 102400 := by decide +kernel

/-- The example sample (V9, sample A). -/
theorem test_rdall : (after (exec .rdall (answering [.ok exampleBytes]))).map
    (fun t => (t.comp.sample, t.comp.tFine, t.env.trace)) =
    some (⟨2508, 25767233, 61519⟩, 128422, [.xportRead 0xF7 8, .response 0]) := by decide +kernel

/-- V17: the first push. -/
theorem test_wpush : (after (exec .wpush { State.reset with comp.sample := ⟨2000, 0, 0⟩ })).map
    (fun t => (t.win.wsum, t.win.whead.val, t.win.wtail.val, t.win.wlen.val)) =
    some (0x4034000000000000, 1, 0, 1) := by decide +kernel
/-- V20: the 61st push. -/
theorem test_wpush_full : (after (exec .wpush (holding 60 (by decide)))).map (fun t => (t.port.last, t.win.wlen.val)) =
    some (.full, 60) := by decide

/-- V17: the pop of the only sample. -/
theorem test_wpop : (after (exec .wpop { State.reset with
      win := { State.reset.win with
        buf := State.reset.win.buf.set 0 ⟨2000, 0, 0⟩, whead := 1, wlen := 1, wsum := 0x4034000000000000 } })).map
    (fun t => (t.win.popped.temp, t.win.wsum, t.win.wtail.val, t.win.wlen.val)) = some (2000, 0, 1, 0) := by
  decide +kernel
/-- P5: the pop of an empty window, `CAUSE` 0x1104, STATUS 0x401. -/
theorem test_wpop_empty : (after (exec .wpop State.reset)).map (fun t => (causeWord t, statusWord t, t.env.trace)) =
    some (0x1104, 0x401, [.response (rspWord .empty 0)]) := by decide

/-- V21: the average of five samples whose sum is 20.08. -/
theorem test_wavg : (after (exec .wavg { State.reset with
      win := { State.reset.win with wlen := 5, wsum := 0x4034147AE0000000 } })).map
    (fun t => (t.win.avg, t.win.avgv)) = some (0x40808312, true) := by decide +kernel
/-- V17: an empty window gives no data, and `AVG` stays. -/
theorem test_wavg_empty : (after (exec .wavg { State.reset with
      win := { State.reset.win with avg := 0x41A00000, avgv := true } })).map
    (fun t => (t.win.avg, t.win.avgv, t.port.last)) = some (0x41A00000, false, .ok) := by decide

/-- V19, i = 1: the sum after a second sample. -/
theorem test_wupd : (after (exec .wupd { State.reset with
      comp.sample := ⟨2001, 0, 0⟩
      win := { State.reset.win with whead := 1, wlen := 1, wsum := 0x4034000000000000 } })).map
    (fun t => (t.win.wsum, t.win.wlen.val)) = some (0x40440147B0000000, 2) := by decide +kernel
/-- V19, i = 59: the sixtieth push evicts the oldest. -/
theorem test_wupd_evicts : (after (exec .wupd (holding 59 (by decide)))).map
    (fun t => (t.win.wlen.val, t.win.whead.val, t.win.wtail.val)) = some (59, 0, 1) := by decide +kernel

/-- P3: Emergency with an edge and a hot sample goes to User. -/
theorem test_fstep : (after (exec .fstep (control .emergency true 2400))).map
    (fun t => (t.ctl.fsm, t.ctl.sw, t.ctl.level, t.env.trace)) =
    some (.user, false, 128, [.emit ⟨2, 2, 1, 2, 0⟩, .setLevel 128, .response 0]) := by decide +kernel
/-- V11: a cool Normal step stays and counts. -/
theorem test_fstep_stays : (after (exec .fstep (control .normal false 2399))).map
    (fun t => (t.ctl.fsm, indWord t, t.env.trace)) =
    some (.normal, 0x0100, [.emit ⟨0, 0, 2399, 0, 0⟩, .response 0]) := by decide +kernel

/-- V16: the pending edge is moved, and only once. -/
theorem test_econs : (after (exec .econs { State.reset with ctl.edge := true })).map statusWord = some 0x8 ∧
    (after (exec .econs { State.reset with ctl.sw := true })).map statusWord = some 0 := by decide

/-- P4: INIT. -/
theorem test_init : (after (exec .init { State.reset with
      env := { State.reset.env with cal1 := [.ok exampleBlock1], cal2 := [.ok exampleBlock2] } })).map
    (fun t => (t.comp.coef, statusWord t, t.env.trace)) =
    some (exampleCoef, 2, [.xportRead 0x88 26, .xportRead 0xE1 7, .response 0]) := by decide +kernel
/-- A failed second read is fatal: `CAUSE` 0x3002. -/
theorem test_init_fails : (after (exec .init { State.reset with
      env := { State.reset.env with cal1 := [.ok exampleBlock1], cal2 := [.err] } })).map
    (fun t => (causeWord t, t.comp.cb1len, t.comp.cb2len, t.comp.calv)) = some (0x3002, 26, 0, false) := by
  decide +kernel

/-- P4, tick 1. -/
theorem test_poll : (after (exec .poll { answering [.ok exampleBytes] with env.tick := 1 })).map
    (fun t => (statusWord t, t.port.lasttick, indWord t, t.win.wsum, t.win.avg)) =
    some (0x26, 1, 0xFF, 0x4039147AE0000000, 0x41C8A3D7) := by decide +kernel
/-- V25: POLL before calibration. -/
theorem test_poll_uncalibrated : (after (exec .poll { State.reset with env.tick := 1 })).map
    (fun t => (causeWord t, t.port.lasttick, t.env.trace)) =
    some (0x3102, 0, [.response (rspWord .calibrationError 0)]) := by decide

/-- P4, tick 1, by TICKSEQ: the events in their order. -/
theorem test_tickseq : (after (exec .tickseq (answering [.ok exampleBytes]))).map (·.env.trace) =
    some [.xportRead 0xF7 8, .emit ⟨2, 2, 0, 1, 0⟩, .setLevel 255, .response 0] := by decide +kernel
/-- P4, tick 3: a failed read. -/
theorem test_tickseq_read_fails : (after (exec .tickseq (answering [.err]))).map
    (fun t => (statusWord t, t.env.trace)) =
    some (0x102, [.xportRead 0xF7 8, .emit ⟨1, 5, 0, 0, 0⟩, .response (rspWord .transportError 0)]) := by decide +kernel

/-- V23: `WR RAW_T, 0xFFFFFFFF` keeps 20 bits. -/
theorem test_wr : (after (exec (.wr 0x11 0xFFFFFFFF) State.reset)).map (readAddr · 0x11) = some 0x000FFFFF := by decide
/-- V23, V24: a read-only register ignores a write; a halted CORE refuses one. -/
theorem test_wr_ignored : (after (exec (.wr 0x20 5) State.reset)).map (readAddr · 0x20) = some 0 ∧
    (after (exec (.wr 0x14 1) halted)).map (fun t => (t.comp, t.env.trace)) =
      some (State.reset.comp, [.response (rspWord .empty 0)]) := by decide

/-- V1: `RD T3` sign-extends, `RD T1` does not. -/
theorem test_rd : (after (exec (.rd 0x32) ready)).map (·.env.trace) = some [.response 0x0FFFFFC18] ∧
    (after (exec (.rd 0x33) ready)).map (·.env.trace) = some [.response 0x000008E7D] := by decide
/-- V23: an empty slot index and an unmapped address read 0. -/
theorem test_rd_zero : readAddr { State.reset with win.widx := 60 } 0x26 = 0 ∧ readAddr halted 0x05 = 0 := by decide

/-- V24: the reset event leaves the halt. -/
theorem test_reset : (after (step { halted with env.inputs := [.reset] })).map statusWord = some 0 := by decide

/-! ### Witnesses: what each statement with hypotheses is about exists -/

theorem witness_EncodeOfDecode : decode 0x11400000960 = .ok (.wr 0x14 2400) ∧ decode 0x00000000001 = .ok .nop ∧
    fieldKind 0x11400000960 = 0b01 ∧ fieldKind 0x00000000001 ≠ 0b01 := by decide

theorem witness_IllegalWordsAreRefused : decode 0x30000000000 = .error .reservedKind ∧
    decode 0x00700000000 = .error (.unlistedOp 0x07) ∧ decode 0x03300000000 = .error (.unlistedOp 0x33) ∧
    decode 0x0FF00000000 = .error (.unlistedOp 0xFF) ∧ State.reset.port.halt = false ∧ halted.port.halt = true := by
  decide

theorem witness_StepRunsDecodedInstruction : (arriving (.command 0x00300000000)).env.inputs = [.command 0x00300000000] ∧
    (arriving (.command 0x00300000000)).env.stalled = false ∧ decode 0x00300000000 = .ok .compt ∧
    Instr.wellFormed .compt = true ∧
    (arriving (.command 0x30000000000)).env.inputs = [.command 0x30000000000] ∧
    decode 0x30000000000 = .error .reservedKind ∧
    (arriving (.command 0x30000000000)).port.halt = false ∧
    ({ halted with env.inputs := [.command 0x30000000000] } : State).port.halt = true := by decide

theorem witness_FetchWordRunsNext : decodeTableWord 48 0x03100000000 = some .poll ∧
    decodeTableWord 48 0x000FFFFFFFF = some .nop := by decide

theorem witness_EdgeEventSetsEdge : (arriving .edge).env.inputs = [.edge] ∧
    (waiting [.edge]).env.inputs = [.edge] := by decide

theorem witness_EveryCommandAnsweredOnce : State.reset.env.stalled = false ∧
    (after (exec .rdall ready)).map (·.env.stalled) = some true ∧
    (after (exec .rdall (answering [.err]))).map (·.env.stalled) = some false := by decide

theorem witness_ParametersAndTraceKept : ∃ t, step (arriving (.command 0x02000000000)) = .next t := ⟨_, rfl⟩

theorem witness_NopOnlyClearsLast : State.reset.port.halt = false ∧ halted.port.halt = true := by decide

theorem witness_WrWritesExactlyItsRegister : halted.port.halt = true ∧ State.reset.port.halt = false ∧
    ∀ a ∈ [0x00, 0x03, 0x05, 0x0F, 0x17, 0x24, 0x26, 0x4F, 0x52, 0x5F, 0x7A, 0x7F, 0x87, 0x8F, 0x98, 0xFF],
      ¬Rules.Writable a := by
  refine ⟨rfl, rfl, ?_⟩
  unfold Rules.Writable
  decide

theorem witness_WidxChangedOnlyByItsWrite : (∃ t, exec (.wr 0x26 5) State.reset = .next t) ∧
    ∀ d, Instr.wr 0x26 5 ≠ .wr 0x25 d := ⟨⟨_, rfl⟩, fun _ h => absurd (Instr.wr.inj h).1 (by decide)⟩

theorem witness_LastKeptByTransactionsAndHalt : (∃ t, exec .fstep halted = .next t ∧ halted.port.halt = true) ∧
    (∃ t, exec (.wr 0x04 1) State.reset = .next t) ∧ ∃ t, exec (.rd 0x00) State.reset = .next t :=
  ⟨⟨_, rfl, rfl⟩, ⟨_, rfl⟩, ⟨_, rfl⟩⟩

theorem witness_HaltedCoreRefuses : halted.port.halt = true ∧ halted.port.HaltInv ∧ (∀ a, Instr.poll ≠ .rd a) ∧
    decode 0x30000000000 = .error .reservedKind ∧ ({ halted with env.inputs := [.edge] } : State).env.inputs = [.edge] ∧
    ∃ t, step { halted with env.inputs := [.reset] } = .next t ∧ t.port.halt = false :=
  ⟨rfl, by unfold Port.HaltInv; decide, fun _ h => Instr.noConfusion h, rfl, rfl, _, rfl, rfl⟩

theorem witness_FatalErrorRecordsItsCause :
    State.reset.port.halt = false ∧ ∃ t, exec .wpop State.reset = .next t ∧ t.port.halt = true := ⟨rfl, _, rfl, rfl⟩

theorem witness_HaltInvKept : halted.port.HaltInv ∧ ∃ t, step { halted with env.inputs := [.reset] } = .next t := by
  refine ⟨?_, _, rfl⟩
  unfold Port.HaltInv
  decide

theorem witness_LdcalParsesTheBlocks : (blocks 0x03).port.halt = false ∧ (blocks 0x03).comp.cb1len = 26 ∧
    (blocks 0x03).comp.cb2len = 7 ∧ State.reset.comp.cb1len ≠ 26 ∧
    ({ blocks 0x03 with comp.cb2len := 8 } : State).comp.cb2len ≠ 7 := by decide

theorem witness_UnpackExtractsRawSample : State.reset.port.halt = false := by decide

theorem witness_ComptFollowsItsFormula : ready.port.halt = false ∧ ready.comp.calv = true ∧
    State.reset.port.halt = false ∧ State.reset.comp.calv = false := by decide

theorem witness_ComppFollowsItsFormula :
    let s : State := { ready with comp := { ready.comp with tFine := 128422, rawP := 415148 } }
    s.port.halt = false ∧ s.comp.calv = true ∧ State.reset.comp.calv = false := by decide

theorem witness_ComphFollowsItsFormula :
    let s : State := { ready with comp := { ready.comp with tFine := 128422, rawH := 65535 } }
    s.port.halt = false ∧ s.comp.calv = true ∧ State.reset.comp.calv = false := by decide

theorem witness_HumidityStaysInRange :
    (∃ t, exec .comph ready = .next t) ∧ ready.port.halt = false ∧ ready.comp.calv = true := ⟨⟨_, rfl⟩, rfl, rfl⟩

theorem witness_ZeroGuardGivesZeroPressure :
    let s : State := { ready with comp := { ready.comp with coef := { exampleCoef with p1 := 0 }, tFine := 128422 } }
    s.port.halt = false ∧ s.comp.calv = true ∧ s.comp.coef.p1 = 0 := by decide

theorem witness_UncalibratedOperationsAreFatal : (blocks 0x03).port.halt = false ∧ (blocks 0x03).comp.calv = false ∧
    (blocks 0x03).comp.cb1len = 26 ∧ (blocks 0x03).comp.cb2len = 7 := by decide

theorem witness_RdallIsReadThenTheFourSteps : (answering [.ok exampleBytes]).port.halt = false ∧
    (answering [.ok exampleBytes]).comp.calv = true ∧ (answering [.ok exampleBytes]).env.data = [.ok exampleBytes] ∧
    (answering [.err]).env.data = [.err] := by decide

theorem witness_CoefficientsChangedOnlyByCalibration :
    (∃ t, exec .rdall (answering [.ok exampleBytes]) = .next t) ∧ Instr.rdall ≠ .ldcal ∧ Instr.rdall ≠ .init :=
  ⟨⟨_, rfl⟩, by decide, by decide⟩

theorem witness_RoundingIsNearestEven :
    let q : Frac := ⟨-2508, 100⟩
    0 < q.den ∧ |q.toRat| < 2 ^ 128 - 2 ^ 103 ∧ finite32 0x41C8A3D7 ∧ finite64 0x4034000000000000 ∧
    (⟨0, 100⟩ : Frac).num = 0 := by
  refine ⟨by decide, ?_, by unfold finite32; decide, by unfold finite64; decide, rfl⟩
  norm_num [Frac.toRat, abs_div]

/-- The second bound: 2 to the power 128 lies below it. -/
theorem witness_RoundingIsNearestEven_64 : |(⟨-2508, 100⟩ : Frac).toRat| < 2 ^ 1024 - 2 ^ 970 := by
  have h : |(⟨-2508, 100⟩ : Frac).toRat| < 2 ^ 970 * 1 := by
    refine lt_of_lt_of_le (b := 2 ^ 5) (by norm_num [Frac.toRat, abs_div]) ?_
    rw [mul_one]
    exact pow_le_pow_right₀ one_le_two (by decide)
  have e : (2 : ℚ) ^ 1024 = 2 ^ 970 * 18014398509481984 := by
    rw [show (18014398509481984 : ℚ) = 2 ^ 54 by norm_num, ← pow_add]
  have hp : (0 : ℚ) < 2 ^ 970 := by positivity
  rw [e]
  generalize (2 : ℚ) ^ 970 = x at h hp ⊢
  linarith

theorem witness_WpushInsertsAtHead : State.reset.port.halt = false ∧ State.reset.win.wlen.val ≠ 60 ∧
    (holding 59 (by decide)).win.wlen.val ≠ 60 ∧ (holding 60 (by decide)).win.wlen.val = 60 ∧
    (holding 60 (by decide)).port.halt = false := by decide

theorem witness_WpopRemovesAtTail : (holding 1 (by decide)).port.halt = false ∧
    (holding 1 (by decide)).win.wlen.val ≠ 0 ∧ (holding 60 (by decide)).win.wlen.val ≠ 0 ∧
    State.reset.win.wlen.val = 0 := by decide

theorem witness_WavgDividesOrSaysNoData : (holding 1 (by decide)).port.halt = false ∧
    (holding 1 (by decide)).win.wlen.val ≠ 0 ∧ State.reset.win.wlen.val = 0 := by decide

theorem witness_WupdPushesThenEvicts : State.reset.port.halt = false ∧ State.reset.win.wlen.val < 59 ∧
    (holding 58 (by decide)).win.wlen.val < 59 ∧ (holding 59 (by decide)).win.wlen.val = 59 ∧
    (holding 60 (by decide)).win.wlen.val = 60 := by decide

theorem witness_WupdOccupancyInSteadyState : SameExtent halted { halted with comp.sample := ⟨2000, 0, 0⟩ } ∧
    ready.port.halt = false ∧ ready.win.wlen.val = 0 ∧ ready.win.whead.val = 0 ∧ ready.win.wtail.val = 0 := by
  unfold SameExtent
  decide

theorem witness_WupdAdvancesSteadyState : (holding 59 (by decide)).port.halt = false ∧
    (holding 59 (by decide)).win.wlen.val = min 59 59 ∧ (holding 59 (by decide)).win.whead.val = 59 % 60 ∧
    (holding 59 (by decide)).win.wtail.val = 0 ∧ (holding 58 (by decide)).win.wlen.val = min 58 59 := by decide

theorem witness_IndexInvKept : (holding 60 (by decide)).win.IndexInv ∧
    ∃ t, step { holding 60 (by decide) with env.inputs := [.command 0x01100000000] } = .next t := by
  refine ⟨?_, _, rfl⟩
  unfold Window.IndexInv
  decide

theorem witness_SumStaysExact :
    let s : State := { holding 0 (by decide) with
      comp.sample := ⟨2000, 0, 0⟩, env.inputs := [.command 0x01000000000] }
    s.win.IndexInv ∧ s.win.SumExact ∧
    ∃ t, step s = .next t ∧ t.win.whead ≠ s.win.whead ∧ Temperate t.comp.sample.temp := by
  refine ⟨by unfold Window.IndexInv; decide, ⟨fun k h => absurd h (Nat.not_lt_zero k), by unfold finite64; decide, ?_⟩,
    _, rfl, by decide, by unfold Temperate; decide⟩
  have h : (value64 (holding 0 (by decide)).win.wsum).num = 0 := by decide +kernel
  unfold real64 Frac.toRat Window.liveSum
  rw [h, Int.cast_zero, zero_div]
  rfl

theorem witness_SumBoundedKept : (holding 3 (by decide)).win.SumBounded ∧
    ∃ t, step { holding 3 (by decide) with env.inputs := [.command 0x01000000000] } = .next t := by
  have h : (value64 (holding 3 (by decide)).win.wsum).num = 0 := by decide +kernel
  refine ⟨⟨by unfold finite64; decide, ?_⟩, _, rfl⟩
  unfold real64 Frac.toRat
  rw [h, Int.cast_zero, zero_div, abs_zero]
  positivity

theorem witness_FstepFollowsTheTable : (control .normal true 2400).port.halt = false ∧
    (∀ f : FsmState, f = .normal ∨ f = .emergency ∨ f = .user → ∀ sw : Bool,
      (control f sw 2400).ctl.fsm = f ∧ (control f sw 2400).ctl.sw = sw ∧
      2400 ≤ (control f sw 2400).comp.sample.temp.toInt ∧ ¬2400 ≤ (control f sw 2399).comp.sample.temp.toInt) := by
  refine ⟨rfl, fun f _ sw => ⟨rfl, rfl, ?_, ?_⟩⟩ <;> simp [control]

theorem witness_IndicatorNeverFeedsBack : Instr.fstep ≠ .rd 0x03 ∧
    (∃ t, exec .fstep (control .normal false 2000) = .next t) ∧
    ∃ u, exec .fstep { control .normal false 2000 with
      cfg := { (control .normal false 2000).cfg with hasIndicator := false } } = .next u :=
  ⟨by decide, ⟨_, rfl⟩, ⟨_, rfl⟩⟩

theorem witness_UserStateLastsOneStep :
    (control .user true 2400).port.halt = false ∧ (control .user true 2400).ctl.fsm = .user := by decide

theorem witness_EconsReadsAndClears : ({ State.reset with ctl.edge := true } : State).port.halt = false := by decide

theorem witness_EdgeChangedOnlyByItsAgents :
    (∃ t, step (arriving .edge) = .next t ∧ (arriving .edge).ctl.edge = false ∧ t.ctl.edge = true) ∧
    (∃ t, step { arriving (.command 0x02100000000) with ctl.edge := true } = .next t ∧ t.ctl.edge = false) ∧
    ∃ t, step { arriving .reset with ctl.edge := true } = .next t ∧ t.ctl.edge = false :=
  ⟨⟨_, rfl, rfl, rfl⟩, ⟨_, rfl, rfl⟩, ⟨_, rfl, rfl⟩⟩

theorem witness_EdgeEventCommutesWithOperations : Instr.fstep ≠ .econs ∧ Instr.fstep ≠ .poll ∧ Instr.fstep ≠ .tickseq ∧
    ∀ a, Instr.fstep ≠ .rd a := ⟨by decide, by decide, by decide, fun _ h => Instr.noConfusion h⟩

theorem witness_FsmChangedOnlyByFstep : (∃ t, exec .econs (control .emergency false 0) = .next t) ∧
    Instr.econs ≠ .fstep ∧ Instr.econs ≠ .tickseq ∧ Instr.econs ≠ .poll :=
  ⟨⟨_, rfl⟩, by decide, by decide, by decide⟩

theorem witness_IndicatorInvKept :
    let s : State := { control .normal false 2000 with
      ctl := { (control .normal false 2000).ctl with level := 64, blinkcnt := 3 }, env.inputs := [.command 0x02000000000] }
    s.cfg.wellFormed = true ∧ IndicatorInv s.cfg s.ctl ∧ ∃ t, step s = .next t := by
  refine ⟨by decide, ?_, _, rfl⟩
  unfold IndicatorInv
  decide

theorem witness_InitReadsAndParses :
    let s : State := { State.reset with
      env := { State.reset.env with cal1 := [.ok exampleBlock1], cal2 := [.ok exampleBlock2] } }
    s.port.halt = false ∧ s.env.cal1 = [.ok exampleBlock1] ∧ s.env.cal2 = [.ok exampleBlock2] ∧
    ({ s with env.cal1 := [.err] } : State).env.cal1 = [.err] ∧
    ({ s with env.cal2 := [.err] } : State).env.cal2 = [.err] := by decide

theorem witness_PollStepsOncePerNewTick : State.reset.port.halt = false ∧ State.reset.comp.calv = false ∧
    ready.comp.calv = true ∧ ready.env.tick = ready.port.lasttick ∧
    ({ answering [.ok exampleBytes] with env.tick := 1 } : State).env.tick ≠ (answering [.ok exampleBytes]).port.lasttick ∧
    ({ ready with port.lasttick := 0xFFFFFFFF } : State).env.tick ≠ 0xFFFFFFFF := by decide

theorem witness_TickseqIsTheFiveOperations : (answering [.ok exampleBytes]).port.halt = false ∧
    (answering [.ok exampleBytes]).comp.calv = true ∧
    (answering [.ok exampleBytes]).env.data = [.ok exampleBytes] := by decide

theorem witness_FailedReadSkipsTheTick : (answering [.err]).port.halt = false ∧ (answering [.err]).comp.calv = true ∧
    (answering [.err]).env.data = [.err] := by decide

theorem witness_FullWindowTickStillSteps :
    let s : State := { answering [.ok exampleBytes] with win.wlen := 60 }
    s.port.halt = false ∧ s.comp.calv = true ∧ s.env.data = [.ok exampleBytes] ∧ s.win.wlen.val = 60 := by decide

theorem witness_OneSampleReadPerCommand : (∃ t, exec .tickseq (answering [.ok exampleBytes]) = .next t) ∧
    Instr.tickseq ≠ .init ∧ (∃ t, exec .poll ready = .next t) ∧ ready.env.tick = ready.port.lasttick :=
  ⟨⟨_, rfl⟩, by decide, ⟨_, rfl⟩, rfl⟩

theorem witness_UnansweredReadWaitsForReset : ready.port.halt = false ∧ ready.comp.calv = true ∧ ready.env.data = [] ∧
    ({ ready with env.tick := 1 } : State).env.tick ≠ ready.port.lasttick ∧
    State.reset.env.cal1 = [] ∧
    ({ State.reset with env.cal1 := [.ok exampleBlock1] } : State).env.cal1 = [.ok exampleBlock1] ∧
    ({ State.reset with env.cal1 := [.ok exampleBlock1] } : State).env.cal2 = [] ∧
    (waiting [.command 0]).env.stalled = true ∧ (waiting [.command 0]).env.inputs = [.command 0] ∧
    ∃ t, step (waiting [.reset]) = .next t ∧ t.env.stalled = false :=
  ⟨rfl, rfl, rfl, by decide, rfl, rfl, rfl, rfl, rfl, _, rfl, rfl⟩

theorem witness_ResetEventGivesResetValues : ({ halted with env.inputs := [.reset] } : State).env.inputs = [.reset] := by
  decide

end Sys2Proof.Tests
end

section
/-! PROOF. What a step is made of: every step is a chain of changes, each to one component of the state. -/

namespace Sys2Proof.Machine

open Sys2Proof Relation

/-- One change to the state: a register group is rewritten, the window takes or gives up a sample, something outside the
CORE changes with the trace only growing, or the reset event happens. No constructor touches the parameters. -/
inductive Change (s : State) : State → Prop where
  | comp (c : Compensation) : Change s { s with comp := c }
  | ctl (c : Control) : Change s { s with ctl := c }
  | port (p : Port) : Change s { s with port := p }
  | env (e : Env) (h : s.env.trace <+: e.trace) : Change s { s with env := e }
  | push (h : s.win.wlen.val < 60) : Change s { s with win := pushSample s.comp.sample s.win h }
  | pop (h : s.win.wlen.val ≠ 0) : Change s { s with win := popSample s.win }
  | average (avg : Word) (avgv : Bool) : Change s { s with win.avg := avg, win.avgv := avgv }
  | widx (i : BitVec 6) : Change s { s with win.widx := i }
  | reset : Change s (resetEvent s)

/-- A chain of changes, none included. -/
abbrev Changes : State → State → Prop := ReflTransGen Change

/-- What every single change keeps, a chain of changes keeps. -/
theorem Changes.keeps {P : State → Prop} (hP : ∀ {s t}, Change s t → P s → P t) {s t : State} (h : Changes s t)
    (hs : P s) : P t := by
  induction h with
  | refl => exact hs
  | tail _ hc ih => exact hP hc ih

/-! ### What leaves the CORE, and the transport -/

theorem put_change (e : Event) (s : State) : Change s (put e s) := .env _ (List.prefix_append _ _)

theorem putAll_change (es : List Event) (s : State) : Change s (putAll es s) := .env _ (List.prefix_append _ _)

theorem emit_change (k : LogKind) (c : Site) (f g h : Word) (s : State) : Change s (emit k c f g h s) :=
  put_change _ s

theorem respond_change (st : Status) (d : Word) (s : State) : Change s (respond st d s) := put_change _ s

theorem readCal1_change (s : State) : Change s (readCal1 s).2 := .env _ (List.prefix_append _ _)

theorem readCal2_change (s : State) : Change s (readCal2 s).2 := .env _ (List.prefix_append _ _)

theorem readData_change (s : State) : Change s (readData s).2 := .env _ (List.prefix_append _ _)

/-! ### The frame of a command -/

/-- A composite is a chain of changes when its sub-step and what follows it are. -/
theorem andThen_changes {s : State} {r : Result} {k : Status → State → Result} (hr : Changes s r.2)
    (hk : ∀ st u, Changes u (k st u).2) : Changes s (andThen r k).2 := by
  obtain ⟨st, u, rfl, h⟩ | ⟨e, u, rfl, h⟩ | ⟨u, rfl, h⟩ := andThen_cases r k
  · rw [h]; exact hr.trans (hk st u)
  · rw [h]; exact hr
  · rw [h]; exact hr

/-- A command is a chain of changes when its pseudocode is. -/
theorem runExec_changes {op : BitVec 8} {body : State → Result} {s t : State} (hb : Changes s (body s).2)
    (h : runExec op body s = .next t) : Changes s t := by
  obtain ⟨-, rfl⟩ | ⟨-, st, u, hu, rfl⟩ | ⟨-, e, u, hu, rfl⟩ | ⟨-, u, hu, rfl⟩ := runExec_cases h
  · exact .single (respond_change _ _ s)
  · rw [hu] at hb
    exact (hb.tail (.port _)).tail (respond_change _ _ _)
  · rw [hu] at hb
    exact (hb.tail (.port _)).tail (respond_change _ _ _)
  · rw [hu] at hb
    exact hb.tail (.env _ List.prefix_rfl)

theorem illegalCommand_changes (s : State) : Changes s (illegalCommand s) := by
  cases h : s.port.halt with
  | true => rw [illegalCommand_of_halt h]; exact .single (respond_change _ _ s)
  | false => rw [illegalCommand_of_running h]; exact .tail (.single (.port _)) (respond_change _ _ _)

/-! ### CompensationEngine -/

theorem needCalibration_changes {s : State} {k : State → Result} (hk : Changes s (k s).2) :
    Changes s (needCalibration s k).2 := by
  cases h : s.comp.calv with
  | true => rw [needCalibration_of_calv h]; exact hk
  | false => rw [needCalibration_of_not_calv h]; exact .refl

theorem opLdcal_changes (s : State) : Changes s (opLdcal s).2 := by
  obtain ⟨-, h⟩ | ⟨-, h⟩ := opLdcal_cases s
  · rw [h]; exact .single (.comp _)
  · rw [h]; exact .refl

theorem opRdall_changes (s : State) : Changes s (opRdall s).2 := by
  have hread : Changes s (readData s).2 := .single (readData_change s)
  obtain ⟨-, h⟩ | ⟨-, -, h⟩ | ⟨-, -, h⟩ | ⟨-, -, -, c, -, h, -, -⟩ := opRdall_cases s
  · rw [h]; exact .refl
  · rw [h]; exact hread
  · rw [h]; exact hread
  · rw [h]; exact hread.tail (.comp c)

/-! ### MovingAverageWindow -/

theorem opWpush_changes (s : State) : Changes s (opWpush s).2 := by
  by_cases h : s.win.wlen.val < 60
  · rw [opWpush_of_lt h]; exact .single (.push h)
  · rw [opWpush_of_full (by omega)]; exact .refl

theorem opWpop_changes (s : State) : Changes s (opWpop s).2 := by
  by_cases h : s.win.wlen.val = 0
  · rw [opWpop_of_empty h]; exact .refl
  · rw [opWpop_of_ne h]; exact .single (.pop h)

theorem opWavg_changes (s : State) : Changes s (opWavg s).2 := by
  by_cases h : s.win.wlen.val = 0
  · rw [opWavg_of_empty h]; exact .single (.average _ _)
  · rw [opWavg_of_ne h]; exact .single (.average _ _)

theorem opWupd_changes (s : State) : Changes s (opWupd s).2 := by
  obtain ⟨hl, h⟩ | ⟨hl, h⟩ | ⟨-, h⟩ := opWupd_cases s
  · rw [h]; exact .single (.push (by omega))
  · rw [h]; exact .tail (.single (.push (by omega))) (.pop (by simp))
  · rw [h]; exact .single (emit_change _ _ _ _ _ s)

/-! ### ControlFSM and SamplingScheduler -/

theorem opEcons_changes (s : State) : Changes s (opEcons s).2 := .single (.ctl _)

theorem opFstep_changes (s : State) : Changes s (opFstep s).2 := by
  obtain ⟨lv, cnt, es, h⟩ := opFstep_spec s
  have hctl : Change s { s with
      ctl := { s.ctl with
        fsm := fsmNext s.ctl.fsm s.ctl.sw (hot s.comp.sample.temp), sw := false, level := lv, blinkcnt := cnt } } :=
    .ctl _
  rw [h]
  exact .tail (.single hctl) (putAll_change es _)

theorem tickAfterSample_changes (s : State) : Changes s (tickAfterSample s).2 :=
  andThen_changes (opWupd_changes s) fun _ u =>
  andThen_changes (opWavg_changes u) fun _ u =>
  andThen_changes (opEcons_changes u) fun _ u =>
  andThen_changes (opFstep_changes u) fun _ _ => .refl

theorem opTickseq_changes (s : State) : Changes s (opTickseq s).2 := by
  refine andThen_changes (opRdall_changes s) fun st u => ?_
  by_cases h : st = .transportError
  · rw [if_pos h]; exact .single (emit_change _ _ _ _ _ u)
  · rw [if_neg h]; exact tickAfterSample_changes u

theorem opPoll_changes (s : State) : Changes s (opPoll s).2 := by
  obtain ⟨-, h⟩ | ⟨-, -, h⟩ | ⟨-, -, h⟩ := opPoll_cases s
  · rw [h]; exact .refl
  · rw [h]; exact .refl
  · rw [h]; exact (ReflTransGen.single (.port _)).trans (opTickseq_changes _)

theorem initSecondBlock_changes {s : State} (hl : s.comp.cb1len = 26) : Changes s (initSecondBlock s).2 := by
  have hread : Changes s (readCal2 s).2 := .single (readCal2_change s)
  obtain ⟨-, h⟩ | ⟨-, h⟩ | ⟨_, _, -, h⟩ := initSecondBlock_cases hl
  · rw [h]; exact hread
  · rw [h]; exact hread
  · rw [h]; exact hread.tail (.comp _)

theorem opInit_changes (s : State) : Changes s (opInit s).2 := by
  have hread : Changes s (readCal1 s).2 := .single (readCal1_change s)
  obtain ⟨-, h⟩ | ⟨-, h⟩ | ⟨_, _, -, h⟩ := opInit_cases s
  · rw [h]; exact hread
  · rw [h]; exact hread
  · rw [h]; exact (hread.tail (.comp _)).trans (initSecondBlock_changes rfl)

/-! ### The host's writes -/

theorem writeReg_changes (s : State) (d : Word) (r : Reg) : Changes s (writeReg s d r) := by
  cases r with
  | sw => exact .single (.ctl _)
  | widx => exact .single (.widx _)
  | rawP | rawT | rawH | tFine | temp | press | hum | cb1len | cb2len => exact .single (.comp _)
  | cb1 | cb2 | dbuf => exact .single (.comp _)
  | _ => exact .refl

theorem writeAddr_changes (s : State) (a : Addr) (d : Word) : Changes s (writeAddr s a d) := by
  unfold writeAddr
  split
  · exact writeReg_changes s d _
  · exact .refl

theorem execWr_changes {a : Addr} {d : Word} {s t : State} (h : execWr a d s = .next t) : Changes s t := by
  obtain rfl := Host.Outcome.next.inj h
  split
  · exact .single (respond_change _ _ s)
  · exact (writeAddr_changes s a d).tail (respond_change _ _ _)

/-! ### The step -/

theorem exec_changes {i : Instr} {s t : State} (h : exec i s = .next t) : Changes s t := by
  cases i with
  | nop => exact runExec_changes .refl h
  | ldcal => exact runExec_changes (opLdcal_changes s) h
  | unpack => exact runExec_changes (.single (.comp _)) h
  | compt => exact runExec_changes (needCalibration_changes (.single (.comp _))) h
  | compp => exact runExec_changes (needCalibration_changes (.single (.comp _))) h
  | comph => exact runExec_changes (needCalibration_changes (.single (.comp _))) h
  | rdall => exact runExec_changes (opRdall_changes s) h
  | wpush => exact runExec_changes (opWpush_changes s) h
  | wpop => exact runExec_changes (opWpop_changes s) h
  | wavg => exact runExec_changes (opWavg_changes s) h
  | wupd => exact runExec_changes (opWupd_changes s) h
  | fstep => exact runExec_changes (opFstep_changes s) h
  | econs => exact runExec_changes (opEcons_changes s) h
  | init => exact runExec_changes (opInit_changes s) h
  | poll => exact runExec_changes (opPoll_changes s) h
  | tickseq => exact runExec_changes (opTickseq_changes s) h
  | wr a d => exact execWr_changes h
  | rd a =>
    obtain rfl := Host.Outcome.next.inj h
    exact .single (respond_change _ _ s)

theorem commandCycle_changes {w : CmdWord} {s t : State} (h : commandCycle w s = .next t) : Changes s t := by
  cases hd : decode w with
  | ok i =>
    rw [commandCycle_of_ok hd] at h
    exact exec_changes h
  | error e =>
    rw [commandCycle_of_error hd] at h
    obtain rfl := Host.Outcome.next.inj h
    exact illegalCommand_changes s

theorem acceptInput_changes {inp : Input} {s t : State} (h : acceptInput inp s = .next t) : Changes s t := by
  cases inp with
  | command w =>
    rw [acceptInput] at h
    split at h
    · obtain rfl := Host.Outcome.next.inj h
      exact .refl
    · exact commandCycle_changes h
  | edge => obtain rfl := Host.Outcome.next.inj h; exact .single (.ctl _)
  | reset => obtain rfl := Host.Outcome.next.inj h; exact .single .reset
  | tick v | answerCal1 a | answerCal2 a | answerData a =>
    obtain rfl := Host.Outcome.next.inj h
    exact .single (.env _ List.prefix_rfl)

/-- Every step is a chain of changes. -/
theorem step_changes {s t : State} (h : step s = .next t) : Changes s t := by
  obtain ⟨-, hn⟩ | ⟨inp, rest, -, hn⟩ := nextInput_cases s
  · obtain rfl := Host.Outcome.next.inj (hn.symm.trans h)
    exact .refl
  · have htake : Change s { s with env.inputs := rest } := .env _ List.prefix_rfl
    exact (ReflTransGen.single htake).trans (acceptInput_changes (hn.symm.trans h))

/-! ### The parameters and the trace -/

/-- A change keeps the parameters and takes back no event. -/
theorem change_keeps_cfg_trace {s t : State} (h : Change s t) : t.cfg = s.cfg ∧ s.env.trace <+: t.env.trace := by
  cases h with
  | env e h => exact ⟨rfl, h⟩
  | _ => exact ⟨rfl, List.prefix_rfl⟩

/-- Settles O10: a step is a chain of changes, and no change writes the parameters or takes back an event. -/
theorem parametersAndTraceKept : Obligations.ParametersAndTraceKept := by
  intro s t h
  refine (step_changes h).keeps (P := fun u => u.cfg = s.cfg ∧ s.env.trace <+: u.env.trace) ?_ ⟨rfl, List.prefix_rfl⟩
  rintro u v hc ⟨hcfg, htr⟩
  obtain ⟨hcfg', htr'⟩ := change_keeps_cfg_trace hc
  exact ⟨hcfg'.trans hcfg, htr.trans htr'⟩

end Sys2Proof.Machine
end

section
/-! PROOF. One rounding gives the nearest number, ties to even. The argument stays in whole numbers: a quotient is compared
with the numbers of the format after both are counted in smallest subnormals and multiplied by the quotient's denominator. -/

namespace Sys2Proof.Machine

open Sys2Proof

/-! ### Rounding to a whole number -/

/-- `a / b` rounded is nearest to `a / b` among the whole numbers, and even in a tie; both sides are multiplied by `b`. -/
theorem roundHalfEven_nearest (a : ℕ) {b : ℕ} (hb : 0 < b) (j : ℤ) :
    |(roundHalfEven a b : ℤ) * b - a| ≤ |j * b - a| ∧
    (|(roundHalfEven a b : ℤ) * b - a| = |j * b - a| → j ≠ roundHalfEven a b → roundHalfEven a b % 2 = 0) := by
  have hdiv : (a : ℤ) = (a / b : ℕ) * b + (a % b : ℕ) := by exact_mod_cast (Nat.div_add_mod' a b).symm
  have hmod : a % b < b := Nat.mod_lt a hb
  unfold roundHalfEven
  generalize a / b = q at *
  generalize a % b = m at *
  have hdown : |(q : ℤ) * b - a| = m := by rw [hdiv, abs_of_nonpos (by omega)]; omega
  have hup : |((q : ℤ) + 1) * b - a| = b - m := by rw [hdiv, add_one_mul, abs_of_nonneg (by omega)]; omega
  have hfar : j = q ∨ j = q + 1 ∨ (b : ℤ) ≤ |j * b - a| := by
    obtain h | h | h | h : j ≤ q - 1 ∨ j = q ∨ j = q + 1 ∨ (q : ℤ) + 2 ≤ j := by omega
    · have hj : j * b ≤ (q - 1) * b := mul_le_mul_of_nonneg_right h (by omega)
      rw [sub_one_mul] at hj
      exact .inr (.inr (le_abs.mpr (.inr (by omega))))
    · exact .inl h
    · exact .inr (.inl h)
    · have hj : ((q : ℤ) + 2) * b ≤ j * b := mul_le_mul_of_nonneg_right h (by omega)
      rw [add_mul] at hj
      exact .inr (.inr (le_abs.mpr (.inl (by omega))))
  split_ifs with hlow hhigh
  · rw [hdown]
    obtain rfl | rfl | hfar := hfar
    · exact ⟨hdown.ge, fun _ hne => absurd rfl hne⟩
    · rw [hup]; omega
    · omega
  · push_cast
    rw [hup]
    obtain rfl | rfl | hfar := hfar
    · rw [hdown]; omega
    · exact ⟨hup.ge, fun _ hne => absurd rfl hne⟩
    · omega
  · have htie : |((q + q % 2 : ℕ) : ℤ) * b - a| = m := by
      obtain h | h : q % 2 = 0 ∨ q % 2 = 1 := by omega
      · rw [h]; exact hdown
      · rw [h]; push_cast; rw [hup]; omega
    rw [htie]
    refine ⟨?_, fun _ _ => by omega⟩
    obtain rfl | rfl | hfar := hfar
    · exact hdown.ge
    · rw [hup]; omega
    · omega

/-! ### The numbers of a format -/

/-- A pattern with exponent field 0 stands for itself. -/
theorem magnitudeUnits_subnormal (f : Format) {m : ℕ} (h : m < 2 ^ f.frac) : magnitudeUnits f m = m := by
  rw [magnitudeUnits, if_pos (Nat.div_eq_of_lt h)]

/-- A pattern with exponent field `e + 1` has the hidden bit. -/
theorem magnitudeUnits_normal (f : Format) (e : ℕ) {m : ℕ} (h : m < 2 ^ f.frac) :
    magnitudeUnits f ((e + 1) * 2 ^ f.frac + m) = (2 ^ f.frac + m) * 2 ^ e := by
  have hdiv : ((e + 1) * 2 ^ f.frac + m) / 2 ^ f.frac = e + 1 := by
    rw [Nat.add_comm, Nat.add_mul_div_right _ _ (by positivity), Nat.div_eq_of_lt h, Nat.zero_add]
  have hmod : ((e + 1) * 2 ^ f.frac + m) % 2 ^ f.frac = m := by
    rw [Nat.add_comm, Nat.add_mul_mod_self_right, Nat.mod_eq_of_lt h]
  rw [magnitudeUnits, hdiv, hmod, if_neg (Nat.succ_ne_zero e), Nat.add_sub_cancel]

/-- Every pattern below the sign is subnormal or normal. -/
theorem magnitude_cases (f : Format) (k : ℕ) :
    k < 2 ^ f.frac ∨ ∃ e m, m < 2 ^ f.frac ∧ k = (e + 1) * 2 ^ f.frac + m := by
  obtain h | h := Nat.lt_or_ge k (2 ^ f.frac)
  · exact .inl h
  · refine .inr ⟨k / 2 ^ f.frac - 1, k % 2 ^ f.frac, Nat.mod_lt _ (by positivity), ?_⟩
    rw [Nat.sub_add_cancel (Nat.div_pos h (by positivity)), Nat.div_add_mod']

/-- A greater pattern stands for a greater number. -/
theorem magnitudeUnits_strictMono (f : Format) : StrictMono (magnitudeUnits f) := by
  refine strictMono_nat_of_lt_succ fun k => ?_
  obtain h | ⟨e, m, hm, rfl⟩ := magnitude_cases f k
  · rw [magnitudeUnits_subnormal f h]
    obtain h' | h' : k + 1 < 2 ^ f.frac ∨ k + 1 = (0 + 1) * 2 ^ f.frac + 0 := by omega
    · rw [magnitudeUnits_subnormal f h']; omega
    · rw [h', magnitudeUnits_normal f 0 (by positivity)]; simpa using h
  · rw [magnitudeUnits_normal f e hm]
    obtain h' | h' : m + 1 < 2 ^ f.frac ∨ m + 1 = 2 ^ f.frac := by omega
    · rw [Nat.add_assoc, magnitudeUnits_normal f e h']
      exact Nat.mul_lt_mul_of_pos_right (by omega) (by positivity)
    · have hk : (e + 1) * 2 ^ f.frac + m + 1 = (e + 1 + 1) * 2 ^ f.frac + 0 := by rw [Nat.succ_mul (e + 1)]; omega
      rw [hk, magnitudeUnits_normal f (e + 1) (by positivity), Nat.pow_succ', ← Nat.mul_assoc]
      exact Nat.mul_lt_mul_of_pos_right (by omega) (by positivity)

/-- Numbers from `2 ^ (frac + t)` on are spaced by multiples of `2 ^ t`. -/
theorem magnitudeUnits_dvd_or_lt (f : Format) (k t : ℕ) :
    2 ^ t ∣ magnitudeUnits f k ∨ (0 < t ∧ magnitudeUnits f k < 2 ^ f.frac * 2 ^ t) := by
  obtain rfl | ht := Nat.eq_zero_or_pos t
  · exact .inl (by simp)
  obtain h | ⟨e, m, hm, rfl⟩ := magnitude_cases f k
  · rw [magnitudeUnits_subnormal f h]
    exact .inr ⟨ht, Nat.lt_of_lt_of_le h (Nat.le_mul_of_pos_right _ (by positivity))⟩
  · rw [magnitudeUnits_normal f e hm]
    obtain h | h := Nat.lt_or_ge e t
    · refine .inr ⟨ht, ?_⟩
      calc (2 ^ f.frac + m) * 2 ^ e < (2 ^ f.frac * 2) * 2 ^ e :=
            Nat.mul_lt_mul_of_pos_right (by omega) (by positivity)
        _ = 2 ^ f.frac * 2 ^ (e + 1) := by rw [Nat.pow_succ']; ring
        _ ≤ 2 ^ f.frac * 2 ^ t := Nat.mul_le_mul_left _ (Nat.pow_le_pow_right (by decide) h)
    · exact .inl (Dvd.dvd.mul_left (pow_dvd_pow 2 h) _)

/-! ### The rounding of a magnitude -/

/-- How many low bits of `u / d`, counted in smallest subnormals, the significand cannot keep. -/
def lostBits (f : Format) (u d : ℕ) : ℕ := Nat.log2 (u / d) - f.frac

/-- `roundMagnitude` before the cut at infinity, of a quotient `u / d` counted in smallest subnormals. -/
def roundUncut (f : Format) (u d : ℕ) : ℕ :=
  lostBits f u d * 2 ^ f.frac + roundHalfEven u (d * 2 ^ lostBits f u d)

theorem roundMagnitude_eq_min (f : Format) (n d : ℕ) :
    roundMagnitude f n d = min (roundUncut f (n * 2 ^ f.scale) d) (f.expMax * 2 ^ f.frac) := rfl

/-- Where bits are lost, the significand has its hidden bit. -/
theorem hiddenBit_le (f : Format) {u d : ℕ} (h : 0 < lostBits f u d) :
    2 ^ f.frac * (d * 2 ^ lostBits f u d) ≤ u := by
  have hu : u / d ≠ 0 := by
    intro h0
    rw [lostBits, h0, Nat.log2_zero] at h
    omega
  have hlog : f.frac + lostBits f u d = Nat.log2 (u / d) := by unfold lostBits at *; omega
  calc 2 ^ f.frac * (d * 2 ^ lostBits f u d) = 2 ^ (f.frac + lostBits f u d) * d := by rw [Nat.pow_add]; ring
    _ ≤ u / d * d := Nat.mul_le_mul_right d (by rw [hlog]; exact Nat.log2_self_le hu)
    _ ≤ u := Nat.div_mul_le_self u d

theorem roundHalfEven_le_succ (a b : ℕ) : roundHalfEven a b ≤ a / b + 1 := by
  unfold roundHalfEven
  split_ifs <;> omega

theorem le_roundHalfEven (a b : ℕ) : a / b ≤ roundHalfEven a b := by
  unfold roundHalfEven
  split_ifs <;> omega

/-- The significand has at most `frac + 1` bits, or is the next power of two. -/
theorem significand_le (f : Format) (u d : ℕ) :
    roundHalfEven u (d * 2 ^ lostBits f u d) ≤ 2 ^ f.frac * 2 := by
  refine (roundHalfEven_le_succ _ _).trans ?_
  rw [← Nat.div_div_eq_div_mul, Nat.succ_le_iff, Nat.div_lt_iff_lt_mul (by positivity), ← Nat.pow_succ,
    ← Nat.pow_add]
  refine Nat.lt_of_lt_of_le Nat.lt_log2_self (Nat.pow_le_pow_right (by decide) ?_)
  unfold lostBits
  omega

/-- The number the rounded pattern stands for: the rounded significand times the power of two that was split off. -/
theorem magnitudeUnits_roundUncut (f : Format) {u d : ℕ} (hd : 0 < d) :
    magnitudeUnits f (roundUncut f u d) =
      roundHalfEven u (d * 2 ^ lostBits f u d) * 2 ^ lostBits f u d := by
  have hle := significand_le f u d
  have hge : lostBits f u d = 0 ∨ 2 ^ f.frac ≤ roundHalfEven u (d * 2 ^ lostBits f u d) := by
    refine (Nat.eq_zero_or_pos _).imp_right fun h => le_trans ?_ (le_roundHalfEven _ _)
    exact (Nat.le_div_iff_mul_le (by positivity)).mpr (hiddenBit_le f h)
  unfold roundUncut
  generalize roundHalfEven u (d * 2 ^ lostBits f u d) = s at *
  generalize lostBits f u d = t at *
  obtain h | h | h : s < 2 ^ f.frac ∨ (2 ^ f.frac ≤ s ∧ s - 2 ^ f.frac < 2 ^ f.frac) ∨ s = 2 ^ f.frac * 2 := by omega
  · obtain rfl : t = 0 := by omega
    rw [Nat.zero_mul, Nat.zero_add, magnitudeUnits_subnormal f h, Nat.pow_zero, Nat.mul_one]
  · have hp : t * 2 ^ f.frac + s = (t + 1) * 2 ^ f.frac + (s - 2 ^ f.frac) := by rw [Nat.succ_mul]; omega
    rw [hp, magnitudeUnits_normal f t h.2, Nat.add_sub_cancel' h.1]
  · have hp : t * 2 ^ f.frac + s = (t + 1 + 1) * 2 ^ f.frac + 0 := by rw [Nat.succ_mul, Nat.succ_mul]; omega
    rw [hp, magnitudeUnits_normal f (t + 1) (by positivity), h, Nat.pow_succ', Nat.add_zero, Nat.mul_assoc]

/-- The uncut rounding is nearest to `u / d` among the positive and negative numbers of the format, exponent field
unbounded, and its last bit is 0 in a tie. Both distances are multiplied by `d`. -/
theorem roundUncut_nearest {f : Format} (hf : 0 < f.frac) (u : ℕ) {d : ℕ} (hd : 0 < d) {z : ℤ} {k : ℕ}
    (hz : |z| = magnitudeUnits f k) :
    |(magnitudeUnits f (roundUncut f u d) : ℤ) * d - u| ≤ |z * d - u| ∧
    (|(magnitudeUnits f (roundUncut f u d) : ℤ) * d - u| = |z * d - u| →
      z ≠ magnitudeUnits f (roundUncut f u d) → roundUncut f u d % 2 = 0) := by
  have hnear := roundHalfEven_nearest u (b := d * 2 ^ lostBits f u d) (by positivity)
  have hsig := hiddenBit_le f (u := u) (d := d)
  have hval := magnitudeUnits_roundUncut f (u := u) hd
  have hpar : roundUncut f u d % 2 = roundHalfEven u (d * 2 ^ lostBits f u d) % 2 := by
    have : 2 ∣ lostBits f u d * 2 ^ f.frac := Dvd.dvd.mul_left (dvd_pow_self 2 hf.ne') _
    unfold roundUncut
    omega
  have hgrid := magnitudeUnits_dvd_or_lt f k (lostBits f u d)
  rw [hval, hpar]
  generalize roundHalfEven u (d * 2 ^ lostBits f u d) = s at *
  generalize lostBits f u d = t at *
  have hscale (j : ℤ) : j * 2 ^ t * d = j * (d * 2 ^ t : ℕ) := by push_cast; ring
  push_cast
  rw [hscale]
  obtain hdvd | ⟨ht, hlt⟩ := hgrid
  · obtain ⟨j, rfl⟩ : (2 ^ t : ℤ) ∣ z := by
      rw [← dvd_abs, hz]; exact_mod_cast hdvd
    rw [mul_comm _ j, hscale]
    refine ⟨(hnear j).1, fun he hne => (hnear j).2 he fun hj => hne (by rw [hj])⟩
  · have hlow : |(2 ^ f.frac : ℤ) * (d * 2 ^ t : ℕ) - u| < |z * d - u| := by
      have hu : (2 ^ f.frac : ℤ) * (d * 2 ^ t : ℕ) ≤ u := by exact_mod_cast hsig ht
      have hzlt : z < 2 ^ f.frac * 2 ^ t := (le_abs_self z).trans_lt (by rw [hz]; exact_mod_cast hlt)
      have hzd : z * d < 2 ^ f.frac * (d * 2 ^ t : ℕ) := by
        rw [← hscale]; exact mul_lt_mul_of_pos_right hzlt (by exact_mod_cast hd)
      rw [abs_of_nonpos (by omega), abs_of_nonpos (by omega)]
      omega
    have hlt := (hnear _).1.trans_lt hlow
    exact ⟨hlt.le, fun he => absurd he hlt.ne⟩

/-! ### No overflow below the bound -/

/-- The bound below which a rounding stays finite, counted in smallest subnormals: half way from the greatest finite number
to the next power of two. -/
def overflowUnits (f : Format) : ℕ := (2 ^ f.frac * 4 - 1) * 2 ^ (f.expMax - 3)

/-- Below the bound the rounding is below the pattern of infinity: otherwise the greatest finite number would be nearer. -/
theorem roundUncut_lt_infinity {f : Format} (hf : 0 < f.frac) (he : 3 ≤ f.expMax) {u d : ℕ} (hd : 0 < d)
    (h : u < overflowUnits f * d) : roundUncut f u d < f.expMax * 2 ^ f.frac := by
  obtain ⟨e, hexp⟩ := Nat.exists_eq_add_of_le' he
  have hF : 1 ≤ 2 ^ f.frac := Nat.one_le_two_pow
  -- the pattern of infinity read as a number, and the greatest finite number
  have htop : magnitudeUnits f (f.expMax * 2 ^ f.frac) = 2 ^ f.frac * (4 * 2 ^ e) := by
    rw [hexp, show (e + 3) * 2 ^ f.frac = (e + 2 + 1) * 2 ^ f.frac + 0 from rfl,
      magnitudeUnits_normal f (e + 2) (by positivity), Nat.pow_add]
    ring
  have hmax : magnitudeUnits f ((e + 1 + 1) * 2 ^ f.frac + (2 ^ f.frac - 1)) = (2 ^ f.frac * 2 - 1) * (2 * 2 ^ e) := by
    rw [magnitudeUnits_normal f (e + 1) (by omega), Nat.pow_succ']
    congr 1
    omega
  rw [overflowUnits, hexp, Nat.add_sub_cancel] at h
  by_contra! hge
  have hval := (magnitudeUnits_strictMono f).monotone hge
  have hnear := (roundUncut_nearest hf u hd (z := ((2 ^ f.frac * 2 - 1) * (2 * 2 ^ e) : ℕ))
    (by rw [hmax]; exact Nat.abs_cast _)).1
  generalize magnitudeUnits f (roundUncut f u d) = v at *
  generalize 2 ^ f.frac = F at *
  have hX : (0 : ℤ) < 2 ^ e * d := by positivity
  have hv : 4 * (F * (2 ^ e * d)) ≤ (v * d : ℤ) := by
    have := Nat.mul_le_mul_right d (htop.symm.trans_le hval)
    zify at this
    linarith
  have hu : u + 2 ^ e * d < 4 * (F * (2 ^ e * d) : ℤ) := by
    zify [show 1 ≤ F * 4 by omega] at h
    linarith
  have hz : (((F * 2 - 1) * (2 * 2 ^ e) : ℕ) : ℤ) * d = 4 * (F * (2 ^ e * d)) - 2 * (2 ^ e * d) := by
    push_cast [show 1 ≤ F * 2 by omega]
    ring
  rw [hz, abs_of_pos (by linarith)] at hnear
  obtain hnear | hnear := le_abs.mp hnear <;> linarith

end Sys2Proof.Machine
end

section
/-! PROOF. The rounding of a signed quotient to a pattern: sign bit, zero, and the nearest number (00_scope.md rule R7, section
5.3), first for a format, then for the two register widths. -/

namespace Sys2Proof.Machine

open Sys2Proof

/-! ### Signed values of a format -/

/-- The value of a pattern, counted in smallest subnormals, has the pattern's magnitude. -/
theorem abs_valueOf_num (f : Format) (neg : Bool) (p : ℕ) : |(valueOf f neg p).num| = magnitudeUnits f p := by
  cases neg <;> simp [valueOf]

theorem abs_valueOf (f : Format) (neg : Bool) (p : ℕ) :
    |(valueOf f neg p).toRat| = (magnitudeUnits f p : ℚ) / 2 ^ f.scale := by
  rw [Frac.toRat, abs_div, ← Int.cast_abs, abs_valueOf_num]
  simp [valueOf]

/-- The distance of a pattern's value from a quotient, over their common denominator. -/
theorem abs_valueOf_sub (f : Format) (neg : Bool) (p : ℕ) {q : Frac} (hq : 0 < q.den) :
    |(valueOf f neg p).toRat - q.toRat| =
      (|(valueOf f neg p).num * q.den - q.num * 2 ^ f.scale| : ℤ) / (2 ^ f.scale * q.den : ℚ) := by
  have hden : (q.den : ℚ) ≠ 0 := by exact_mod_cast hq.ne'
  have hpos : (0 : ℚ) < 2 ^ f.scale * q.den := by positivity
  rw [← abs_of_pos hpos, Int.cast_abs, ← abs_div]
  congr 1
  simp only [Frac.toRat, valueOf]
  push_cast
  field_simp

/-- A value seen from the side of zero on which the quotient lies. -/
def alongside (q : Frac) (z : ℤ) : ℤ := if q.num < 0 then -z else z

theorem abs_alongside (q : Frac) (z : ℤ) : |alongside q z| = |z| := by
  unfold alongside
  split <;> simp

theorem alongside_injective (q : Frac) : Function.Injective (alongside q) := by
  unfold alongside
  split
  · exact neg_injective
  · exact Function.injective_id

/-- A pattern with the sign of the quotient shows its magnitude. -/
theorem alongside_valueOf (f : Format) (p : ℕ) (q : Frac) :
    alongside q (valueOf f (decide (q.num < 0)) p).num = magnitudeUnits f p := by
  by_cases h : q.num < 0 <;> simp [alongside, valueOf, h]

/-- Turning to the quotient's side keeps distances from it. -/
theorem abs_alongside_sub (f : Format) (z : ℤ) (q : Frac) :
    |alongside q z * q.den - (q.num.natAbs * 2 ^ f.scale : ℕ)| = |z * q.den - q.num * 2 ^ f.scale| := by
  unfold alongside
  push_cast
  split_ifs with h
  · rw [abs_of_neg h, ← abs_neg]
    congr 1
    ring
  · rw [abs_of_nonneg (not_lt.mp h)]

/-- Below the overflow bound the rounding is finite, so nothing is cut. -/
theorem roundMagnitude_finite {f : Format} (hf : 0 < f.frac) (he : 3 ≤ f.expMax) {q : Frac} (hq : 0 < q.den)
    (h : |q.toRat| < overflowUnits f / 2 ^ f.scale) :
    roundMagnitude f q.num.natAbs q.den = roundUncut f (q.num.natAbs * 2 ^ f.scale) q.den ∧
      roundMagnitude f q.num.natAbs q.den < f.expMax * 2 ^ f.frac := by
  have hden : (0 : ℚ) < q.den := by exact_mod_cast hq
  have hu : q.num.natAbs * 2 ^ f.scale < overflowUnits f * q.den := by
    rw [Frac.toRat, abs_div, abs_of_pos hden, div_lt_div_iff₀ hden (by positivity), ← Int.cast_abs,
      Int.abs_eq_natAbs] at h
    exact_mod_cast h
  have hlt := roundUncut_lt_infinity hf he hq hu
  rw [roundMagnitude_eq_min, min_eq_left hlt.le]
  exact ⟨rfl, hlt⟩

/-- Below the overflow bound a rounded quotient is nearest among all values of the format, and its last bit is 0 in a
tie. -/
theorem valueOf_roundMagnitude_nearest {f : Format} (hf : 0 < f.frac) (he : 3 ≤ f.expMax) {q : Frac} (hq : 0 < q.den)
    (h : |q.toRat| < overflowUnits f / 2 ^ f.scale) (neg : Bool) (k : ℕ) {r : Frac}
    (hr : r = valueOf f (decide (q.num < 0)) (roundMagnitude f q.num.natAbs q.den)) :
    |r.toRat - q.toRat| ≤ |(valueOf f neg k).toRat - q.toRat| ∧
    (|r.toRat - q.toRat| = |(valueOf f neg k).toRat - q.toRat| → (valueOf f neg k).toRat ≠ r.toRat →
      roundMagnitude f q.num.natAbs q.den % 2 = 0) := by
  have hpos : (0 : ℚ) < 2 ^ f.scale * q.den := by
    have : (0 : ℚ) < q.den := by exact_mod_cast hq
    positivity
  have hnear := roundUncut_nearest hf (q.num.natAbs * 2 ^ f.scale) hq (k := k)
    ((abs_alongside q _).trans (abs_valueOf_num f neg k))
  rw [← (roundMagnitude_finite hf he hq h).1, ← alongside_valueOf f _ q, ← hr, abs_alongside_sub,
    abs_alongside_sub] at hnear
  obtain ⟨hle, htie⟩ := hnear
  subst hr
  rw [abs_valueOf_sub f _ _ hq, abs_valueOf_sub f _ _ hq, div_le_div_iff_of_pos_right hpos,
    div_left_inj' hpos.ne', Int.cast_le, Int.cast_inj]
  refine ⟨hle, fun he hne => htie he fun hz => hne ?_⟩
  rw [Frac.toRat, Frac.toRat, alongside_injective q hz]
  rfl

/-! ### The two register widths -/

/-- The overflow bound as a value of the format. -/
theorem overflowUnits_div (f : Format) {a : ℕ} (h : f.expMax - 3 = a + f.scale) :
    (overflowUnits f : ℚ) / 2 ^ f.scale = (2 ^ f.frac * 4 - 1) * 2 ^ a := by
  have h1 : 1 ≤ 2 ^ f.frac * 4 := by have := Nat.one_le_two_pow (n := f.frac); omega
  rw [overflowUnits, h, pow_add, div_eq_iff (by positivity)]
  push_cast [h1]
  ring

theorem overflowUnits_binary32 : (overflowUnits binary32 : ℚ) / 2 ^ binary32.scale = 2 ^ 128 - 2 ^ 103 := by
  rw [overflowUnits_div binary32 (a := 103) rfl, show 128 = 25 + 103 from rfl, pow_add, binary32]
  norm_num

theorem overflowUnits_binary64 : (overflowUnits binary64 : ℚ) / 2 ^ binary64.scale = 2 ^ 1024 - 2 ^ 970 := by
  rw [overflowUnits_div binary64 (a := 970) rfl, show 1024 = 54 + 970 from rfl, pow_add, binary64]
  generalize (2 : ℚ) ^ 970 = x
  norm_num
  ring

/-- The sign bit of `rnd32` is the quotient's. -/
theorem rnd32_msb (q : Frac) : (rnd32 q).msb = decide (q.num < 0) := by
  rw [rnd32, BitVec.msb_append]
  simp

/-- The sign bit of `rnd64` is the quotient's. -/
theorem rnd64_msb (q : Frac) : (rnd64 q).msb = decide (q.num < 0) := by
  rw [rnd64, BitVec.msb_append]
  simp

theorem value32_rnd32 (q : Frac) :
    value32 (rnd32 q) = valueOf binary32 (decide (q.num < 0)) (roundMagnitude binary32 q.num.natAbs q.den) := by
  rw [value32, rnd32_msb, rnd32_magnitude]

theorem value64_rnd64 (q : Frac) :
    value64 (rnd64 q) = valueOf binary64 (decide (q.num < 0)) (roundMagnitude binary64 q.num.natAbs q.den) := by
  rw [value64, rnd64_msb, rnd64_magnitude]

/-- A pattern whose magnitude field is even has last bit 0. -/
theorem getLsbD_zero_of_magnitude_even {n m : ℕ} {x : BitVec n} (h : x.toNat % 2 ^ (m + 1) % 2 = 0) :
    x.getLsbD 0 = false := by
  rw [Nat.pow_succ', Nat.mod_mul_right_mod] at h
  simp [BitVec.getLsbD, h]

theorem rnd32_nearestEven {q : Frac} (hq : 0 < q.den) (h : |q.toRat| < 2 ^ 128 - 2 ^ 103) :
    Rules.NearestEven real32 finite32 q.toRat (rnd32 q) := by
  rw [← overflowUnits_binary32] at h
  refine ⟨?_, fun p _ => ?_⟩
  · rw [finite32, rnd32_magnitude]
    exact (roundMagnitude_finite (by decide) (by decide) hq h).2
  · obtain ⟨hle, htie⟩ := valueOf_roundMagnitude_nearest (by decide) (by decide) hq h p.msb (p.toNat % 2 ^ 31)
      (value32_rnd32 q)
    rw [← rnd32_magnitude] at htie
    exact ⟨hle, fun he hne => getLsbD_zero_of_magnitude_even (htie he hne)⟩

theorem rnd64_nearestEven {q : Frac} (hq : 0 < q.den) (h : |q.toRat| < 2 ^ 1024 - 2 ^ 970) :
    Rules.NearestEven real64 finite64 q.toRat (rnd64 q) := by
  rw [← overflowUnits_binary64] at h
  refine ⟨?_, fun p _ => ?_⟩
  · rw [finite64, rnd64_magnitude]
    exact (roundMagnitude_finite (by decide) (by decide) hq h).2
  · obtain ⟨hle, htie⟩ := valueOf_roundMagnitude_nearest (by decide) (by decide) hq h p.msb (p.toNat % 2 ^ 63)
      (value64_rnd64 q)
    rw [← rnd64_magnitude] at htie
    exact ⟨hle, fun he hne => getLsbD_zero_of_magnitude_even (htie he hne)⟩

/-- The quotient 0 rounds to the pattern 0. -/
theorem roundMagnitude_zero (f : Format) {d : ℕ} (hd : 0 < d) : roundMagnitude f 0 d = 0 := by
  simp [roundMagnitude, roundHalfEven, hd]

/-- Settles O32: both roundings are the format's rounding to nearest with the quotient's sign bit in front. -/
theorem roundingIsNearestEven : Obligations.RoundingIsNearestEven := by
  intro q hq
  refine ⟨rnd32_nearestEven hq, rnd64_nearestEven hq, fun h0 => ?_, rnd32_msb q, rnd64_msb q⟩
  simp [rnd32, rnd64, h0, roundMagnitude_zero _ hq]

end Sys2Proof.Machine
end

section
/-! PROOF. `WSUM` stays a number of magnitude at most 2^100 (00_scope.md rule R8). One entry moves the sum by less than 2^26,
and from 2^100 to the next binary64 number it is 2^48: a rounding to nearest cannot cross that gap. -/

namespace Sys2Proof.Machine

open Sys2Proof

/-! ### Exact sums -/

theorem Frac.toRat_add {a b : Frac} (ha : 0 < a.den) (hb : 0 < b.den) : (a.add b).toRat = a.toRat + b.toRat := by
  have ha' : (a.den : ℚ) ≠ 0 := by exact_mod_cast ha.ne'
  have hb' : (b.den : ℚ) ≠ 0 := by exact_mod_cast hb.ne'
  simp only [Frac.toRat, Frac.add]
  push_cast
  field_simp

theorem Frac.toRat_sub {a b : Frac} (ha : 0 < a.den) (hb : 0 < b.den) : (a.sub b).toRat = a.toRat - b.toRat := by
  have ha' : (a.den : ℚ) ≠ 0 := by exact_mod_cast ha.ne'
  have hb' : (b.den : ℚ) ≠ 0 := by exact_mod_cast hb.ne'
  simp only [Frac.toRat, Frac.sub]
  push_cast
  field_simp

theorem value32_den_pos (x : Word) : 0 < (value32 x).den := Nat.two_pow_pos _

theorem value64_den_pos (x : DWord) : 0 < (value64 x).den := Nat.two_pow_pos _

/-! ### One entry is small -/

@[simp] theorem magnitudeUnits_zero (f : Format) : magnitudeUnits f 0 = 0 :=
  magnitudeUnits_subnormal f (Nat.two_pow_pos _)

theorem real32_zero : real32 0 = 0 :=
  abs_eq_zero.mp ((abs_valueOf _ _ _).trans (by simp))

theorem real64_zero : real64 0 = 0 :=
  abs_eq_zero.mp ((abs_valueOf _ _ _).trans (by simp))

theorem finite32_zero : finite32 0 := by
  unfold finite32
  decide

theorem finite64_zero : finite64 0 := by
  unfold finite64
  decide

/-- The float Celsius form of any temperature is below 2^26 in magnitude: 0 is a number, and the rounded value is no farther
from the quotient. -/
theorem abs_real32_cdegF32_lt (t : Word) : |real32 (cdegF32 t)| < 2 ^ 26 := by
  have hq : |(⟨t.toInt, Config.divT⟩ : Frac).toRat| ≤ 2 ^ 31 / 100 := by
    have ht : |t.toInt| ≤ 2 ^ 31 := abs_le.mpr ⟨BitVec.le_toInt t, (BitVec.toInt_lt (x := t)).le⟩
    have ht' : |(t.toInt : ℚ)| ≤ 2 ^ 31 := by exact_mod_cast ht
    rw [Frac.toRat, abs_div, show |((Config.divT : ℕ) : ℚ)| = 100 from abs_of_pos (by norm_num)]
    linarith
  have hnear := ((rnd32_nearestEven (show 0 < Config.divT by decide) (hq.trans_lt (by norm_num))).2 0 finite32_zero).1
  rw [real32_zero, zero_sub, abs_neg] at hnear
  have htri := abs_sub_abs_le_abs_sub (real32 (cdegF32 t)) (⟨t.toInt, Config.divT⟩ : Frac).toRat
  rw [cdegF32] at *
  linarith

/-! ### The gap above 2^100 -/

/-- A binary64 number above 2^100 is at least 2^100 + 2^48: the pattern of 2^100 has exponent field 48 + 1074 + 1 and
fraction 0, and the next pattern stands for 2^48 more. -/
theorem le_abs_real64_of_lt {x : DWord} (h : 2 ^ 100 < |real64 x|) : 2 ^ 100 + 2 ^ 48 ≤ |real64 x| := by
  have hat := magnitudeUnits_normal binary64 (48 + binary64.scale) (m := 0) (by decide)
  have hnext := magnitudeUnits_normal binary64 (48 + binary64.scale) (m := 1) (by decide)
  rw [pow_add, show binary64.frac = 52 from rfl] at hat hnext
  rw [show |real64 x| = _ from abs_valueOf binary64 x.msb _] at h ⊢
  generalize x.toNat % 2 ^ 63 = k at h ⊢
  rw [lt_div_iff₀ (by positivity)] at h
  rw [le_div_iff₀ (by positivity)]
  have hk : (48 + binary64.scale + 1) * 2 ^ 52 + 0 < k := by
    rw [← (magnitudeUnits_strictMono binary64).lt_iff_lt, hat]
    refine lt_of_eq_of_lt ?_ (show 2 ^ 100 * 2 ^ binary64.scale < magnitudeUnits binary64 k by exact_mod_cast h)
    ring
  have hle := (magnitudeUnits_strictMono binary64).monotone (Nat.succ_le_of_lt hk)
  rw [Nat.add_zero, Nat.succ_eq_add_one, hnext] at hle
  refine le_of_eq_of_le ?_ (Nat.cast_le.mpr hle)
  push_cast
  ring

/-- Rounding a quotient within 2^26 of a bounded number gives a bounded number. -/
theorem rnd64_bounded {q : Frac} (hq : 0 < q.den) {x : DWord} (hfin : finite64 x) (hx : |real64 x| ≤ 2 ^ 100)
    (hstep : |q.toRat - real64 x| ≤ 2 ^ 26) : finite64 (rnd64 q) ∧ |real64 (rnd64 q)| ≤ 2 ^ 100 := by
  have hqle : |q.toRat| ≤ 2 ^ 100 + 2 ^ 26 := by
    have := abs_sub_abs_le_abs_sub q.toRat (real64 x)
    linarith
  have hbound : (2 : ℚ) ^ 100 + 2 ^ 26 < 2 ^ 1024 - 2 ^ 970 := by
    have hlow : (2 : ℚ) ^ 101 ≤ 2 ^ 970 := pow_le_pow_right₀ one_le_two (by decide)
    rw [show 1024 = 54 + 970 from rfl, pow_add]
    generalize (2 : ℚ) ^ 970 = x at hlow
    linarith
  obtain ⟨hfin', hnear⟩ := rnd64_nearestEven hq (hqle.trans_lt hbound)
  refine ⟨hfin', not_lt.mp fun hgt => ?_⟩
  have hgap := le_abs_real64_of_lt hgt
  have hdist := (hnear x hfin).1
  rw [abs_sub_comm (real64 x)] at hdist
  have htri := abs_sub_abs_le_abs_sub (real64 (rnd64 q)) q.toRat
  linarith

/-! ### The window -/

theorem sumBounded_pushSample {w : Window} (hw : w.SumBounded) (x : Sample) (h : w.wlen.val < 60) :
    (pushSample x w h).SumBounded := by
  obtain ⟨hfin, hle⟩ := hw
  refine rnd64_bounded (Nat.mul_pos (value64_den_pos _) (value32_den_pos _)) hfin hle ?_
  rw [Frac.toRat_add (value64_den_pos _) (value32_den_pos _), ← real64, ← real32, add_sub_cancel_left]
  exact (abs_real32_cdegF32_lt _).le

theorem sumBounded_popSample {w : Window} (hw : w.SumBounded) : (popSample w).SumBounded := by
  obtain ⟨hfin, hle⟩ := hw
  refine rnd64_bounded (Nat.mul_pos (value64_den_pos _) (value32_den_pos _)) hfin hle ?_
  rw [Frac.toRat_sub (value64_den_pos _) (value32_den_pos _), ← real64, ← real32, sub_sub_cancel_left, abs_neg]
  exact (abs_real32_cdegF32_lt _).le

/-- A change keeps the bound on the sum: only a push, a pop and a reset write it. -/
theorem change_keeps_sumBounded {s t : State} (h : Change s t) (hs : s.win.SumBounded) : t.win.SumBounded := by
  cases h with
  | push h => exact sumBounded_pushSample hs _ h
  | pop => exact sumBounded_popSample hs
  | reset => exact ⟨finite64_zero, by rw [resetEvent_win_wsum, real64_zero, abs_zero]; positivity⟩
  | _ => exact hs

/-- Settles O41: a step is a chain of changes, and every change keeps the bound. -/
theorem sumBoundedKept : Obligations.SumBoundedKept := fun _ _ hs h =>
  (step_changes h).keeps (P := fun u => u.win.SumBounded) change_keeps_sumBounded hs

end Sys2Proof.Machine
end

section
/-! PROOF. The register map leads both ways: a register stands at one address, and that address leads back to it
(10_state.md rule R40). -/

namespace Sys2Proof.Machine

open Sys2Proof

/-- Settles O15: a named register is found by running the lookup, a byte of a buffer by its index. -/
theorem registerMapIsOneToOne : Obligations.RegisterMapIsOneToOne := by
  intro r
  cases r with
  | cb1 i | cb2 i | dbuf i => revert i; decide
  | _ => rfl

/-- The table of the named registers gives each its own address. -/
theorem addr_of_mem_regTable : ∀ row ∈ regTable, row.2.addr = row.1 := by decide

/-- An address leads to no register but the one that stands there. -/
theorem addr_of_regAt {a : Addr} {r : Reg} (h : regAt a = some r) : r.addr = a := by
  unfold regAt at h
  split_ifs at h
  case neg =>
    obtain ⟨row, hfind, rfl⟩ := Option.map_eq_some_iff.mp h
    rw [addr_of_mem_regTable row (List.mem_of_find?_eq_some hfind)]
    exact eq_of_beq (List.find?_some (p := fun row : Addr × Reg => row.1 == a) hfind)
  all_goals
    obtain rfl := Option.some.inj h
    simp only [Reg.addr]
    bv_omega

end Sys2Proof.Machine
end

section
/-! PROOF. What each instruction can touch. A command is a chain of effects, each of one kind and on one group of registers;
which kinds an instruction has is its footprint. A register changes only under an instruction whose footprint has the kind
that writes it. -/

namespace Sys2Proof.Machine

open Sys2Proof Relation

/-- The kinds of effect of a command. -/
inductive EffectKind where
  /-- something outside the CORE: a request, an event, an answer taken, a wait -/
  | outside
  /-- registers of the CompensationEngine other than the coefficients and `CALV` -/
  | measure
  /-- the coefficients, `CALV` and the calibration buffers -/
  | calibrate
  /-- the window, but not `WIDX` -/
  | window
  /-- `WIDX` -/
  | select
  /-- FSTEP's registers -/
  | fstep
  /-- the edge flag moved into the operand -/
  | econs
  /-- the edge operand alone -/
  | operand
  /-- `LASTTICK` -/
  | tick
  /-- `LAST`, by a CORE that runs -/
  | status
  /-- a fatal error, taken by a CORE that runs -/
  | fatal

/-- One effect of the given kind. -/
inductive Effect (s : State) : EffectKind → State → Prop where
  | outside (e : Env) : Effect s .outside { s with env := e }
  | measure (c : Compensation) (hcoef : c.coef = s.comp.coef) (hcalv : c.calv = s.comp.calv) :
      Effect s .measure { s with comp := c }
  | calibrate (c : Compensation) : Effect s .calibrate { s with comp := c }
  | window (w : Window) (hwidx : w.widx = s.win.widx) : Effect s .window { s with win := w }
  | select (i : BitVec 6) : Effect s .select { s with win.widx := i }
  | fstep : Effect s .fstep { s with ctl := (opFstep s).2.ctl }
  | econs : Effect s .econs (opEcons s).2
  | operand (b : Bool) : Effect s .operand { s with ctl.sw := b }
  | tick (v : Word) : Effect s .tick { s with port.lasttick := v }
  | status (hrun : s.port.halt = false) (st : Status) : Effect s .status { s with port.last := st }
  | fatal (hrun : s.port.halt = false) (op : BitVec 8) (e : Fatal) : Effect s .fatal (takeFatal op e s)

/-- A chain of effects of the kinds listed. -/
abbrev Effects (E : List EffectKind) : State → State → Prop := ReflTransGen fun s t => ∃ k ∈ E, Effect s k t

/-- The kinds by which an EXEC command ends, added to those of its pseudocode. -/
def withEnding (E : List EffectKind) : List EffectKind := .status :: .fatal :: .outside :: E

/-- The kinds of effect of one tick. -/
def tickKinds : List EffectKind := [.outside, .measure, .window, .econs, .fstep]

/-- The kinds of effect an instruction can have. -/
def footprint : Instr → List EffectKind
  | .nop => withEnding []
  | .ldcal | .init => withEnding [.outside, .calibrate]
  | .unpack | .compt | .compp | .comph | .rdall => withEnding [.outside, .measure]
  | .wpush | .wpop | .wavg | .wupd => withEnding [.outside, .window]
  | .fstep => withEnding [.outside, .fstep]
  | .econs => withEnding [.econs]
  | .poll => withEnding (.tick :: tickKinds)
  | .tickseq => withEnding tickKinds
  | .wr a _ => if a = 0x25 then [.outside, .select] else [.outside, .measure, .operand]
  | .rd _ => [.outside]

/-! ### Chains of effects -/

section Chains

variable {E F : List EffectKind} {s t : State}

theorem Effects.of {k : EffectKind} (hk : k ∈ E) (h : Effect s k t) : Effects E s t :=
  ReflTransGen.single ⟨k, hk, h⟩

theorem Effects.mono (hEF : E ⊆ F) (h : Effects E s t) : Effects F s t :=
  ReflTransGen.mono (fun _ _ ⟨k, hk, he⟩ => ⟨k, hEF hk, he⟩) _ _ h

/-- What every effect of the kinds listed keeps, a chain of them keeps. -/
theorem Effects.keeps {P : State → Prop} (hP : ∀ {k u v}, k ∈ E → Effect u k v → P u → P v) (h : Effects E s t)
    (hs : P s) : P t := by
  induction h with
  | refl => exact hs
  | tail _ hstep ih =>
    obtain ⟨k, hk, he⟩ := hstep
    exact hP hk he ih

/-- What every effect of the kinds listed leaves as it was, a chain of them leaves as it was. -/
theorem Effects.leaves {α : Type} (f : State → α) (hf : ∀ {k u v}, k ∈ E → Effect u k v → f v = f u)
    (h : Effects E s t) : f t = f s :=
  h.keeps (P := fun u => f u = f s) (fun hk he hu => (hf hk he).trans hu) rfl

theorem put_effects (hE : .outside ∈ E) (e : Event) (s : State) : Effects E s (put e s) := .of hE (.outside _)

theorem respond_effects (hE : .outside ∈ E) (st : Status) (d : Word) (s : State) : Effects E s (respond st d s) :=
  put_effects hE _ s

theorem emit_effects (hE : .outside ∈ E) (k : LogKind) (c : Site) (f g h : Word) (s : State) :
    Effects E s (emit k c f g h s) := put_effects hE _ s

end Chains

/-! ### The frame of a command -/

/-- Only a fatal error halts the CORE, and no effect ends the halt. -/
theorem Effect.halt_kept {s t : State} {k : EffectKind} (h : Effect s k t) (hk : k ≠ .fatal) :
    t.port.halt = s.port.halt := by
  cases h with
  | fatal => exact absurd rfl hk
  | _ => rfl

/-- A composite has the effects of its sub-step and of what follows it. -/
theorem andThen_effects {E : List EffectKind} {s : State} {r : Result} {k : Status → State → Result}
    (hr : Effects E s r.2) (hk : ∀ st u, Effects E u (k st u).2) : Effects E s (andThen r k).2 := by
  obtain ⟨st, u, rfl, h⟩ | ⟨e, u, rfl, h⟩ | ⟨u, rfl, h⟩ := andThen_cases r k
  · rw [h]; exact hr.trans (hk st u)
  · rw [h]; exact hr
  · rw [h]; exact hr

/-- An EXEC command has the effects of its pseudocode, which does not end the CORE's run, and those of its ending. -/
theorem runExec_effects {op : BitVec 8} {body : State → Result} {E : List EffectKind} {s t : State} (hE : .fatal ∉ E)
    (hb : Effects E s (body s).2) (h : runExec op body s = .next t) : Effects (withEnding E) s t := by
  have hout : .outside ∈ withEnding E := by simp [withEnding]
  have hhalt : (body s).2.port.halt = s.port.halt :=
    hb.leaves (·.port.halt) fun hk he => he.halt_kept fun hf => hE (hf ▸ hk)
  have hbody : Effects (withEnding E) s (body s).2 := hb.mono fun _ hk => by simp [withEnding, hk]
  obtain ⟨-, rfl⟩ | ⟨hrun, st, u, hu, rfl⟩ | ⟨hrun, e, u, hu, rfl⟩ | ⟨-, u, hu, rfl⟩ := runExec_cases h
  · exact respond_effects hout _ _ s
  · rw [hu] at hhalt hbody
    have hlast : Effects (withEnding E) u { u with port.last := st } :=
      Effects.of (by simp [withEnding]) (.status (hhalt.trans hrun) st)
    exact (hbody.trans hlast).trans (respond_effects hout _ _ _)
  · rw [hu] at hhalt hbody
    have hfatal : Effects (withEnding E) u (takeFatal op e u) :=
      Effects.of (by simp [withEnding]) (.fatal (hhalt.trans hrun) op e)
    exact (hbody.trans hfatal).trans (respond_effects hout _ _ _)
  · rw [hu] at hbody
    exact hbody.trans (Effects.of hout (.outside _))

theorem illegalCommand_effects (s : State) : Effects (withEnding []) s (illegalCommand s) := by
  have hout : .outside ∈ withEnding [] := by simp [withEnding]
  cases h : s.port.halt with
  | true => rw [illegalCommand_of_halt h]; exact respond_effects hout _ _ s
  | false =>
    rw [illegalCommand_of_running h]
    have hlast : Effects (withEnding []) s { s with port.last := .illegalCommand } :=
      Effects.of (by simp [withEnding]) (.status h _)
    exact hlast.trans (respond_effects hout _ _ _)

/-! ### CompensationEngine -/

theorem needCalibration_effects {E : List EffectKind} {s : State} {k : State → Result} (hk : Effects E s (k s).2) :
    Effects E s (needCalibration s k).2 := by
  cases h : s.comp.calv with
  | true => rw [needCalibration_of_calv h]; exact hk
  | false => rw [needCalibration_of_not_calv h]; exact .refl

theorem measure_effects {s t : State} (h : Effect s .measure t) : Effects [.outside, .measure] s t :=
  Effects.of (by simp) h

theorem opLdcal_effects (s : State) : Effects [.outside, .calibrate] s (opLdcal s).2 := by
  obtain ⟨-, h⟩ | ⟨-, h⟩ := opLdcal_cases s
  · rw [h]; exact Effects.of (by simp) (.calibrate _)
  · rw [h]; exact .refl

theorem opRdall_effects (s : State) : Effects [.outside, .measure] s (opRdall s).2 := by
  have hread : Effects [.outside, .measure] s (readData s).2 := Effects.of (by simp) (.outside _)
  obtain ⟨-, h⟩ | ⟨-, -, h⟩ | ⟨-, -, h⟩ | ⟨hc, _, _, c, -, h, hcalv, hcoef⟩ := opRdall_cases s
  · rw [h]; exact .refl
  · rw [h]; exact hread
  · rw [h]; exact hread
  · rw [h]; exact hread.trans (measure_effects (.measure c hcoef (hcalv.trans hc.symm)))

/-! ### MovingAverageWindow -/

theorem opWpush_effects (s : State) : Effects [.outside, .window] s (opWpush s).2 := by
  by_cases h : s.win.wlen.val < 60
  · rw [opWpush_of_lt h]; exact Effects.of (by simp) (.window _ rfl)
  · rw [opWpush_of_full (by omega)]; exact .refl

theorem opWpop_effects (s : State) : Effects [.outside, .window] s (opWpop s).2 := by
  by_cases h : s.win.wlen.val = 0
  · rw [opWpop_of_empty h]; exact .refl
  · rw [opWpop_of_ne h]; exact Effects.of (by simp) (.window _ rfl)

theorem opWavg_effects (s : State) : Effects [.outside, .window] s (opWavg s).2 := by
  by_cases h : s.win.wlen.val = 0
  · rw [opWavg_of_empty h]; exact Effects.of (by simp) (.window _ rfl)
  · rw [opWavg_of_ne h]; exact Effects.of (by simp) (.window _ rfl)

theorem opWupd_effects (s : State) : Effects [.outside, .window] s (opWupd s).2 := by
  obtain ⟨_, h⟩ | ⟨_, h⟩ | ⟨-, h⟩ := opWupd_cases s
  · rw [h]; exact Effects.of (by simp) (.window _ rfl)
  · rw [h]; exact Effects.of (by simp) (.window _ rfl)
  · rw [h]; exact emit_effects (by simp) _ _ _ _ _ s

/-! ### ControlFSM and SamplingScheduler -/

/-- FSTEP writes its own registers and the trace. -/
theorem opFstep_frame (s : State) :
    (opFstep s).2 = { s with ctl := (opFstep s).2.ctl, env := (opFstep s).2.env } := by
  obtain ⟨lv, cnt, es, h⟩ := opFstep_spec s
  rw [h]
  rfl

theorem opFstep_effects (s : State) : Effects [.outside, .fstep] s (opFstep s).2 := by
  have hctl : Effects [.outside, .fstep] s { s with ctl := (opFstep s).2.ctl } := Effects.of (by simp) .fstep
  rw [opFstep_frame]
  exact hctl.trans (Effects.of (by simp) (.outside _))

theorem tickAfterSample_effects (s : State) : Effects tickKinds s (tickAfterSample s).2 :=
  andThen_effects ((opWupd_effects s).mono (by simp [tickKinds])) fun _ u =>
  andThen_effects ((opWavg_effects u).mono (by simp [tickKinds])) fun _ u =>
  andThen_effects (Effects.of (by simp [tickKinds]) (Effect.econs (s := u))) fun _ u =>
  andThen_effects ((opFstep_effects u).mono (by simp [tickKinds])) fun _ _ => .refl

theorem opTickseq_effects (s : State) : Effects tickKinds s (opTickseq s).2 := by
  refine andThen_effects ((opRdall_effects s).mono (by simp [tickKinds])) fun st u => ?_
  by_cases h : st = .transportError
  · rw [if_pos h]; exact emit_effects (by simp [tickKinds]) _ _ _ _ _ u
  · rw [if_neg h]; exact tickAfterSample_effects u

theorem opPoll_effects (s : State) : Effects (.tick :: tickKinds) s (opPoll s).2 := by
  obtain ⟨-, h⟩ | ⟨-, -, h⟩ | ⟨-, -, h⟩ := opPoll_cases s
  · rw [h]; exact .refl
  · rw [h]; exact .refl
  · have htick : Effects (.tick :: tickKinds) s { s with port.lasttick := s.env.tick } := Effects.of (by simp) (.tick _)
    rw [h]
    exact htick.trans ((opTickseq_effects _).mono (List.subset_cons_self _ _))

theorem initSecondBlock_effects {s : State} (hl : s.comp.cb1len = 26) :
    Effects [.outside, .calibrate] s (initSecondBlock s).2 := by
  have hread : Effects [.outside, .calibrate] s (readCal2 s).2 := Effects.of (by simp) (.outside _)
  obtain ⟨-, h⟩ | ⟨-, h⟩ | ⟨_, _, -, h⟩ := initSecondBlock_cases hl
  · rw [h]; exact hread
  · rw [h]; exact hread
  · rw [h]; exact hread.trans (Effects.of (by simp) (.calibrate _))

theorem opInit_effects (s : State) : Effects [.outside, .calibrate] s (opInit s).2 := by
  have hread : Effects [.outside, .calibrate] s (readCal1 s).2 := Effects.of (by simp) (.outside _)
  obtain ⟨-, h⟩ | ⟨-, h⟩ | ⟨b, _, -, h⟩ := opInit_cases s
  · rw [h]; exact hread
  · rw [h]; exact hread
  · have hstore : Effects [.outside, .calibrate] (readCal1 s).2
        { (readCal1 s).2 with comp.cb1 := b, comp.cb1len := 26 } := Effects.of (by simp) (.calibrate _)
    rw [h]
    exact (hread.trans hstore).trans (initSecondBlock_effects rfl)

/-! ### The host port -/

theorem writeReg_effects (s : State) (d : Word) {r : Reg} (hr : r ≠ .widx) :
    Effects [.outside, .measure, .operand] s (writeReg s d r) := by
  cases r with
  | widx => exact absurd rfl hr
  | sw => exact Effects.of (by simp) (.operand _)
  | rawP | rawT | rawH | tFine | temp | press | hum | cb1len | cb2len => exact Effects.of (by simp) (.measure _ rfl rfl)
  | cb1 | cb2 | dbuf => exact Effects.of (by simp) (.measure _ rfl rfl)
  | _ => exact .refl

theorem writeAddr_effects (s : State) (a : Addr) (d : Word) : Effects (footprint (.wr a d)) s (writeAddr s a d) := by
  rw [footprint]
  split_ifs with ha
  · subst ha
    exact Effects.of (by simp) (.select _)
  · unfold writeAddr
    split
    next r hr => exact writeReg_effects s d fun hw => ha (addr_of_regAt (hw ▸ hr)).symm
    next => exact .refl

theorem outside_mem_footprint (i : Instr) : .outside ∈ footprint i := by
  cases i with
  | wr a d => rw [footprint]; split_ifs <;> simp
  | _ => simp [footprint, withEnding]

theorem execWr_effects {a : Addr} {d : Word} {s t : State} (h : execWr a d s = .next t) :
    Effects (footprint (.wr a d)) s t := by
  obtain rfl := Host.Outcome.next.inj h
  split
  · exact respond_effects (outside_mem_footprint _) _ _ s
  · exact (writeAddr_effects s a d).trans (respond_effects (outside_mem_footprint _) _ _ _)

/-- Every instruction has effects of the kinds of its footprint alone. -/
theorem exec_effects {i : Instr} {s t : State} (h : exec i s = .next t) : Effects (footprint i) s t := by
  cases i with
  | nop => exact runExec_effects (by simp) .refl h
  | ldcal => exact runExec_effects (by simp) (opLdcal_effects s) h
  | unpack => exact runExec_effects (by simp) (measure_effects (.measure _ (by rfl) (by rfl))) h
  | compt => exact runExec_effects (by simp) (needCalibration_effects (measure_effects (.measure _ (by rfl) (by rfl)))) h
  | compp => exact runExec_effects (by simp) (needCalibration_effects (measure_effects (.measure _ (by rfl) (by rfl)))) h
  | comph => exact runExec_effects (by simp) (needCalibration_effects (measure_effects (.measure _ (by rfl) (by rfl)))) h
  | rdall => exact runExec_effects (by simp) (opRdall_effects s) h
  | wpush => exact runExec_effects (by simp) (opWpush_effects s) h
  | wpop => exact runExec_effects (by simp) (opWpop_effects s) h
  | wavg => exact runExec_effects (by simp) (opWavg_effects s) h
  | wupd => exact runExec_effects (by simp) (opWupd_effects s) h
  | fstep => exact runExec_effects (by simp) (opFstep_effects s) h
  | econs => exact runExec_effects (by simp) (Effects.of (List.mem_singleton_self _) .econs) h
  | init => exact runExec_effects (by simp) (opInit_effects s) h
  | poll => exact runExec_effects (by simp [tickKinds]) (opPoll_effects s) h
  | tickseq => exact runExec_effects (by simp [tickKinds]) (opTickseq_effects s) h
  | wr a d => exact execWr_effects h
  | rd a =>
    obtain rfl := Host.Outcome.next.inj h
    exact respond_effects (outside_mem_footprint _) _ _ s

/-! ### The step -/

/-- Everything a step can do: touch the environment alone (idle, a dropped word, a tick value, an answer), an edge-set event,
a reset event, or a command word's chain of effects. -/
theorem step_cases {s t : State} (h : step s = .next t) :
    (∃ e, t = { s with env := e }) ∨
    (∃ rest, s.env.inputs = .edge :: rest ∧ t = edgeEvent { s with env.inputs := rest }) ∨
    (∃ rest, s.env.inputs = .reset :: rest ∧ t = resetEvent { s with env.inputs := rest }) ∨
    ∃ w rest E, s.env.inputs = .command w :: rest ∧ Effects E s t ∧
      (E = withEnding [] ∨ ∃ i, decode w = .ok i ∧ E = footprint i) := by
  obtain ⟨-, hn⟩ | ⟨inp, rest, hin, hn⟩ := nextInput_cases s
  · obtain rfl := Host.Outcome.next.inj (hn.symm.trans h)
    exact .inl ⟨_, rfl⟩
  replace h := hn.symm.trans h
  cases inp with
  | command w =>
    rw [acceptInput] at h
    split at h
    · obtain rfl := Host.Outcome.next.inj h
      exact .inl ⟨_, rfl⟩
    have htake {E : List EffectKind} (hE : .outside ∈ E) : Effects E s { s with env.inputs := rest } :=
      .of hE (.outside _)
    refine .inr (.inr (.inr ⟨w, rest, ?_⟩))
    cases hd : decode w with
    | ok i =>
      rw [commandCycle_of_ok hd] at h
      exact ⟨_, hin, (htake (outside_mem_footprint i)).trans (exec_effects h), .inr ⟨i, rfl, rfl⟩⟩
    | error e =>
      rw [commandCycle_of_error hd] at h
      obtain rfl := Host.Outcome.next.inj h
      exact ⟨_, hin, (htake (by simp [withEnding])).trans (illegalCommand_effects _), .inl rfl⟩
  | edge => exact .inr (.inl ⟨rest, hin, (Host.Outcome.next.inj h).symm⟩)
  | reset => exact .inr (.inr (.inl ⟨rest, hin, (Host.Outcome.next.inj h).symm⟩))
  | tick v | answerCal1 a | answerCal2 a | answerData a => exact .inl ⟨_, (Host.Outcome.next.inj h).symm⟩

end Sys2Proof.Machine
end

section
/-! PROOF. Registers that few instructions write (10_state.md rules R14, R15, R26, R27, R29, R30, R34): each is left alone by
every kind of effect but its own, and so by every instruction whose footprint lacks that kind. -/

namespace Sys2Proof.Machine

open Sys2Proof

/-! ### What one effect leaves -/

section Effect

variable {s t : State} {k : EffectKind}

theorem Effect.cfg_kept (h : Effect s k t) : t.cfg = s.cfg := by
  cases h <;> rfl

theorem Effect.widx_kept (h : Effect s k t) (hk : k ≠ .select) : t.win.widx = s.win.widx := by
  cases h with
  | select => exact absurd rfl hk
  | window w hwidx => exact hwidx
  | _ => rfl

theorem Effect.coefficients_kept (h : Effect s k t) (hk : k ≠ .calibrate) :
    (t.comp.coef, t.comp.calv) = (s.comp.coef, s.comp.calv) := by
  cases h with
  | calibrate => exact absurd rfl hk
  | measure c hcoef hcalv => exact Prod.ext hcoef hcalv
  | _ => rfl

theorem Effect.fsm_kept (h : Effect s k t) (hk : k ≠ .fstep) :
    (t.ctl.fsm, t.ctl.level, t.ctl.blinkcnt) = (s.ctl.fsm, s.ctl.level, s.ctl.blinkcnt) := by
  cases h with
  | fstep => exact absurd rfl hk
  | _ => rfl

theorem Effect.last_kept (h : Effect s k t) (hs : k ≠ .status) (hf : k ≠ .fatal) : t.port.last = s.port.last := by
  cases h with
  | status => exact absurd rfl hs
  | fatal => exact absurd rfl hf
  | _ => rfl

/-- FSTEP does not touch the edge flag. -/
theorem opFstep_edge (s : State) : (opFstep s).2.ctl.edge = s.ctl.edge := by
  obtain ⟨lv, cnt, es, h⟩ := opFstep_spec s
  rw [h]
  rfl

theorem Effect.edge_kept (h : Effect s k t) (hk : k ≠ .econs) : t.ctl.edge = s.ctl.edge := by
  cases h with
  | econs => exact absurd rfl hk
  | fstep => exact opFstep_edge s
  | _ => rfl

/-- No effect of a command sets the edge flag. -/
theorem Effect.edge_not_set (h : Effect s k t) (hs : s.ctl.edge = false) : t.ctl.edge = false := by
  cases h with
  | econs => rfl
  | fstep => rw [← hs]; exact opFstep_edge s
  | _ => exact hs

/-- A halted CORE stays halted and keeps `LAST` under every effect of a command. -/
theorem Effect.last_kept_of_halt (h : Effect s k t) (hs : s.port.halt = true) :
    t.port.halt = true ∧ t.port.last = s.port.last := by
  cases h with
  | status hrun => simp [hs] at hrun
  | fatal hrun => simp [hs] at hrun
  | _ => exact ⟨hs, rfl⟩

end Effect

/-! ### Which instructions have the kind -/

theorem select_not_mem_footprint {i : Instr} (h : ∀ d, i ≠ .wr 0x25 d) : .select ∉ footprint i := by
  cases i with
  | wr a d =>
    have ha : a ≠ 0x25 := by
      rintro rfl
      exact h d rfl
    rw [footprint, if_neg ha]
    simp
  | _ => simp [footprint, withEnding, tickKinds]

theorem calibrate_not_mem_footprint {i : Instr} (hl : i ≠ .ldcal) (hi : i ≠ .init) : .calibrate ∉ footprint i := by
  cases i with
  | ldcal => exact absurd rfl hl
  | init => exact absurd rfl hi
  | wr a d => rw [footprint]; split_ifs <;> simp
  | _ => simp [footprint, withEnding, tickKinds]

theorem fstep_not_mem_footprint {i : Instr} (hf : i ≠ .fstep) (ht : i ≠ .tickseq) (hp : i ≠ .poll) :
    .fstep ∉ footprint i := by
  cases i with
  | fstep => exact absurd rfl hf
  | tickseq => exact absurd rfl ht
  | poll => exact absurd rfl hp
  | wr a d => rw [footprint]; split_ifs <;> simp
  | _ => simp [footprint, withEnding]

theorem instr_of_econs_mem_footprint {i : Instr} (h : .econs ∈ footprint i) : i = .econs ∨ i = .poll ∨ i = .tickseq := by
  cases i with
  | econs => exact .inl rfl
  | poll => exact .inr (.inl rfl)
  | tickseq => exact .inr (.inr rfl)
  | wr a d => rw [footprint] at h; split_ifs at h <;> simp at h
  | _ => simp [footprint, withEnding] at h

/-- WR and RD do not end the way an EXEC command does. -/
theorem ending_not_mem_footprint {i : Instr} (h : (∃ a d, i = .wr a d) ∨ ∃ a, i = .rd a) :
    .status ∉ footprint i ∧ .fatal ∉ footprint i := by
  obtain ⟨a, d, rfl⟩ | ⟨a, rfl⟩ := h
  · rw [footprint]; split_ifs <;> simp
  · simp [footprint]

/-! ### The statements -/

/-- Settles O16: WR to 0x25 alone has the kind that writes `WIDX`. -/
theorem widxChangedOnlyByItsWrite : Obligations.WidxChangedOnlyByItsWrite := by
  intro i s t h hi
  exact (exec_effects h).leaves (·.win.widx) fun hk he =>
    he.widx_kept fun hsel => select_not_mem_footprint hi (hsel ▸ hk)

/-- Settles O17: WR and RD have no kind that writes `LAST`, and a halted CORE admits none. -/
theorem lastKeptByTransactionsAndHalt : Obligations.LastKeptByTransactionsAndHalt := by
  rintro i s t h (hhalt | htr)
  · refine ((exec_effects h).keeps (P := fun u => u.port.halt = true ∧ u.port.last = s.port.last) ?_ ⟨hhalt, rfl⟩).2
    rintro k u v - he ⟨hu, hlast⟩
    obtain ⟨hv, hkept⟩ := he.last_kept_of_halt hu
    exact ⟨hv, hkept.trans hlast⟩
  · obtain ⟨hstatus, hfatal⟩ := ending_not_mem_footprint htr
    exact (exec_effects h).leaves (·.port.last) fun hk he =>
      he.last_kept (fun hs => hstatus (hs ▸ hk)) fun hf => hfatal (hf ▸ hk)

/-- Settles O31: LDCAL and INIT alone have the kind that writes the coefficients and `CALV`. -/
theorem coefficientsChangedOnlyByCalibration : Obligations.CoefficientsChangedOnlyByCalibration := by
  intro i s t h hl hi
  exact Prod.ext_iff.mp <| (exec_effects h).leaves (fun u => (u.comp.coef, u.comp.calv)) fun hk he =>
    he.coefficients_kept fun hc => calibrate_not_mem_footprint hl hi (hc ▸ hk)

/-- Settles O48: FSTEP, TICKSEQ and POLL alone have the kind that writes the FSM state and the indicator latch. -/
theorem fsmChangedOnlyByFstep : Obligations.FsmChangedOnlyByFstep := by
  intro i s t h hf ht hp
  have hkept := (exec_effects h).leaves (fun u => (u.ctl.fsm, u.ctl.level, u.ctl.blinkcnt)) fun hk he =>
    he.fsm_kept fun hc => fstep_not_mem_footprint hf ht hp (hc ▸ hk)
  simpa only [Prod.mk.injEq] using hkept

/-- Settles O46: no effect of a command sets the flag, and only the kind of ECONS clears it. -/
theorem edgeChangedOnlyByItsAgents : Obligations.EdgeChangedOnlyByItsAgents := by
  intro s t h
  obtain ⟨e, rfl⟩ | ⟨rest, hin, rfl⟩ | ⟨rest, hin, rfl⟩ | ⟨w, rest, E, hin, hE, hkind⟩ := step_cases h
  · exact ⟨fun hs ht => absurd (hs.symm.trans ht) (by decide), fun hs ht => absurd (hs.symm.trans ht) (by decide)⟩
  · exact ⟨fun _ _ => ⟨rest, hin⟩, fun _ ht => absurd ht (by simp)⟩
  · exact ⟨fun _ ht => absurd ht (by simp [State.reset]), fun _ _ => ⟨_, rest, hin, .inl rfl⟩⟩
  · refine ⟨fun hs ht => ?_, fun hs ht => ⟨_, rest, hin, .inr ⟨w, ?_⟩⟩⟩
    · have hclear := hE.keeps (P := fun u => u.ctl.edge = false) (fun _ he => he.edge_not_set) hs
      exact absurd (hclear.symm.trans ht) (by decide)
    · have hmem : .econs ∈ E := by
        by_contra hno
        have hkept := hE.leaves (·.ctl.edge) fun hk he => he.edge_kept fun hc => hno (hc ▸ hk)
        exact absurd (hs.symm.trans (hkept.symm.trans ht)) (by decide)
      obtain rfl | ⟨i, hd, rfl⟩ := hkind
      · simp [withEnding] at hmem
      · exact ⟨i, rfl, hd, instr_of_econs_mem_footprint hmem⟩

end Sys2Proof.Machine
end

section
/-! PROOF. The invariants of the state (10_state.md rules R25, R30, R34, R35): the window's indices by the chain of changes of a
step, the halt and the indicator latch by its effects. -/

namespace Sys2Proof.Machine

open Sys2Proof

/-! ### The indices of the window -/

theorem indexInv_pushSample {w : Window} (hw : w.IndexInv) (x : Sample) (h : w.wlen.val < 60) :
    (pushSample x w h).IndexInv := by
  unfold Window.IndexInv at *
  simp only [pushSample_whead, pushSample_wtail, pushSample_wlen_val, nextSlot_val]
  omega

theorem indexInv_popSample {w : Window} (hw : w.IndexInv) (h : w.wlen.val ≠ 0) : (popSample w).IndexInv := by
  unfold Window.IndexInv at *
  simp only [popSample_whead, popSample_wtail, popSample_wlen_val, nextSlot_val]
  omega

/-- A change keeps the indices in step: only a push, a pop and a reset move one. -/
theorem change_keeps_indexInv {s t : State} (h : Change s t) (hs : s.win.IndexInv) : t.win.IndexInv := by
  cases h with
  | push h => exact indexInv_pushSample hs _ h
  | pop h => exact indexInv_popSample hs h
  | reset => rfl
  | _ => exact hs

/-- Settles O39: a step is a chain of changes, and every change keeps the indices in step. -/
theorem indexInvKept : Obligations.IndexInvKept := fun _ _ hs h =>
  (step_changes h).keeps (P := fun u => u.win.IndexInv) change_keeps_indexInv hs

/-! ### The halt -/

/-- The two fatal codes are those of the fatal errors. -/
theorem fatal_status_cases (e : Fatal) : e.status = .calibrationError ∨ e.status = .empty := by
  cases e with
  | calibrationError => exact .inl rfl
  | empty => exact .inr rfl

/-- Taking a fatal error records its code in `CAUSE` and in `LAST`. -/
theorem haltInv_takeFatal (op : BitVec 8) (e : Fatal) (s : State) : (takeFatal op e s).port.HaltInv :=
  ⟨fun h => absurd h (by simp), fun _ => ⟨fatal_status_cases e, rfl⟩⟩

theorem haltInv_reset : State.reset.port.HaltInv :=
  ⟨fun _ => ⟨rfl, rfl⟩, fun h => absurd h (by decide)⟩

/-- Every effect keeps the halt invariant: `LAST` alone is written only while the CORE runs. -/
theorem Effect.haltInv_kept {s t : State} {k : EffectKind} (h : Effect s k t) (hs : s.port.HaltInv) :
    t.port.HaltInv := by
  cases h with
  | status hrun st => exact ⟨hs.1, fun hhalt => absurd (hrun.symm.trans hhalt) (by decide)⟩
  | fatal _ op e => exact haltInv_takeFatal op e s
  | _ => exact hs

/-- Settles O20: every effect of a command keeps the halt invariant, a reset event establishes it, and nothing else writes
the port. -/
theorem haltInvKept : Obligations.HaltInvKept := by
  intro s t hs h
  obtain ⟨e, rfl⟩ | ⟨rest, -, rfl⟩ | ⟨rest, -, rfl⟩ | ⟨w, rest, E, -, hE, -⟩ := step_cases h
  · exact hs
  · exact hs
  · exact haltInv_reset
  · exact hE.keeps (P := fun u => u.port.HaltInv) (fun _ he => he.haltInv_kept) hs

/-! ### The indicator latch -/

/-- A level the latch can hold. -/
def LatchLevel (cfg : Config.Params) (v : Byte) : Prop :=
  v = 0 ∨ v = cfg.brightNormal ∨ v = cfg.brightEmergency ∨ v = cfg.brightUser

theorem latchLevel_bright (cfg : Config.Params) (x : FsmState) : LatchLevel cfg (bright cfg x) := by
  cases x <;> simp [LatchLevel, bright]

/-- Parameters that meet R5 have half-periods of at least 1. -/
theorem halfPeriods_pos {p : Config.Params} (h : p.wellFormed = true) : 0 < p.halfNormal ∧ 0 < p.halfEmergency := by
  simp only [Config.Params.wellFormed, Bool.and_eq_true, decide_eq_true_eq] at h
  obtain ⟨⟨-, hemergency⟩, hnormal⟩ := h
  exact ⟨by rw [BitVec.lt_def]; simp; omega, by rw [BitVec.lt_def]; simp; omega⟩

/-- A count of 0 is in range in every state. -/
theorem indicatorInv_of_blinkcnt_zero {cfg : Config.Params} (hwf : cfg.wellFormed = true) {c : Control}
    (hcnt : c.blinkcnt = 0) (hnone : cfg.hasIndicator = false → c.level = 0) (hlevel : LatchLevel cfg c.level) :
    IndicatorInv cfg c := by
  obtain ⟨hnormal, hemergency⟩ := halfPeriods_pos hwf
  exact ⟨fun h => ⟨hnone h, hcnt⟩, fun _ => hcnt ▸ hnormal, fun _ => hcnt ▸ hemergency, fun _ => hcnt, hlevel⟩

/-- The count of a state that lasts may reach any value below its half-period. -/
theorem indicatorInv_of_lt_half {cfg : Config.Params} (hhas : cfg.hasIndicator = true) {c : Control}
    (hfsm : c.fsm ≠ .user) (hcnt : c.blinkcnt < half cfg c.fsm) (hlevel : LatchLevel cfg c.level) :
    IndicatorInv cfg c := by
  refine ⟨fun h => absurd (h.symm.trans hhas) (by decide), fun h => ?_, fun h => ?_, fun h => absurd h hfsm, hlevel⟩
  · rw [h] at hcnt; exact hcnt
  · rw [h] at hcnt; exact hcnt

/-- User is never left for itself (42_fsm.md rule R136). -/
theorem fsmNext_user_ne_user (sw h : Bool) : fsmNext .user sw h ≠ .user := by
  cases h <;> simp [fsmNext]

/-- FSTEP keeps the latch in its range (42_fsm.md rule R134): a change of state and a toggle clear the count, and the count
goes up only below the half-period of a state that lasts. -/
theorem opFstep_indicatorInv {s : State} (hwf : s.cfg.wellFormed = true) (hs : IndicatorInv s.cfg s.ctl) :
    IndicatorInv s.cfg (opFstep s).2.ctl := by
  obtain ⟨hnone, -, -, -, hlevel⟩ := hs
  unfold opFstep
  cases hi : s.cfg.hasIndicator with
  | false =>
    obtain ⟨hlevel0, hcnt⟩ := hnone hi
    exact indicatorInv_of_blinkcnt_zero hwf hcnt (fun _ => hlevel0) hlevel
  | true =>
    have hhas {v : Byte} : s.cfg.hasIndicator = false → v = 0 := fun h => absurd (h.symm.trans hi) (by decide)
    simp only [if_true]
    obtain ⟨-, h⟩ | ⟨-, -, v, hv, h⟩ | ⟨hstay, hlt, h⟩ :=
      indicatorUpdate_cases s.ctl.fsm (fsmTransition s).ctl.fsm (fsmTransition s)
    · rw [h]
      exact indicatorInv_of_blinkcnt_zero hwf rfl hhas (latchLevel_bright _ _)
    · have hv' : LatchLevel s.cfg v := by
        obtain rfl | rfl := hv
        · exact .inl rfl
        · exact latchLevel_bright _ _
      rw [h]
      exact indicatorInv_of_blinkcnt_zero hwf rfl hhas hv'
    · rw [h]
      refine indicatorInv_of_lt_half hi (fun huser => ?_) ?_ hlevel
      · have hnext : fsmNext s.ctl.fsm s.ctl.sw (hot s.comp.sample.temp) = .user := huser
        rw [hstay.symm.trans huser] at hnext
        exact fsmNext_user_ne_user _ _ hnext
      · rw [← hstay] at hlt
        exact BitVec.not_le.mp hlt

/-- Every effect keeps the latch in its range: FSTEP's alone writes it. -/
theorem Effect.indicatorInv_kept {s t : State} {k : EffectKind} (h : Effect s k t) (hwf : s.cfg.wellFormed = true)
    (hs : IndicatorInv s.cfg s.ctl) : IndicatorInv t.cfg t.ctl := by
  cases h with
  | fstep => exact opFstep_indicatorInv hwf hs
  | _ => exact hs

/-- Settles O49: FSTEP keeps the latch in its range, a reset event clears it, and nothing else writes it. -/
theorem indicatorInvKept : Obligations.IndicatorInvKept := by
  intro s t hwf hs h
  obtain ⟨e, rfl⟩ | ⟨rest, -, rfl⟩ | ⟨rest, -, rfl⟩ | ⟨w, rest, E, -, hE, -⟩ := step_cases h
  · exact hs
  · exact hs
  · exact indicatorInv_of_blinkcnt_zero hwf rfl (fun _ => rfl) (.inl rfl)
  · refine (hE.keeps (P := fun u => u.cfg.wellFormed = true ∧ IndicatorInv u.cfg u.ctl) ?_ ⟨hwf, hs⟩).2
    rintro k u v - he ⟨hwf, hu⟩
    exact ⟨he.cfg_kept ▸ hwf, he.indicatorInv_kept hwf hu⟩

end Sys2Proof.Machine
end

section
/-! PROOF. The reset values (10_state.md rule R42) and the word STATUS (rule R13). -/

namespace Sys2Proof.Machine

open Sys2Proof

/-! ### Reset -/

theorem step_of_reset {s : State} {rest : List Input} (h : s.env.inputs = .reset :: rest) :
    step s = .next (resetEvent { s with env.inputs := rest }) := by
  rw [step, nextInput, h]
  rfl

/-- Settles O57: the step is the reset event, whose registers the laws of the state give. -/
theorem resetEventGivesResetValues : Obligations.ResetEventGivesResetValues := by
  intro s rest h
  exact ⟨_, step_of_reset h, by simp [State.reset]⟩

/-- Settles O58: the values stand in the definition. -/
theorem resetStateHasResetValues : Obligations.ResetStateHasResetValues := by
  unfold Obligations.ResetStateHasResetValues
  decide

/-- An empty window has the sum 0, exactly. -/
theorem sumExact_of_empty {w : Window} (hlen : w.wlen.val = 0) (hsum : w.wsum = 0) : w.SumExact := by
  refine ⟨fun k hk => by omega, hsum ▸ finite64_zero, ?_⟩
  rw [hsum, real64_zero, Window.liveSum, hlen]
  rfl

/-- Settles O21: an empty window whose sum is 0, no halt, a cleared latch, and the default parameters. -/
theorem invariantsHoldAtReset : Obligations.InvariantsHoldAtReset := by
  have hwf : State.reset.cfg.wellFormed = true := by decide
  have hbounded : State.reset.win.SumBounded := ⟨finite64_zero, by
    rw [show State.reset.win.wsum = 0 from rfl, real64_zero, abs_zero]; positivity⟩
  exact ⟨haltInv_reset, rfl, hbounded, sumExact_of_empty rfl rfl,
    indicatorInv_of_blinkcnt_zero hwf rfl (fun _ => rfl) (.inl rfl), hwf⟩

/-! ### STATUS -/

/-- Address 0 reads STATUS. -/
theorem exec_rd_status (s : State) : exec (.rd 0x00) s = .next (respond .ok (statusWord s) s) := rfl

/-- The single bits of STATUS. -/
theorem statusWord_flags (s : State) :
    (statusWord s).getLsbD 0 = s.port.halt ∧ (statusWord s).getLsbD 1 = s.comp.calv ∧
    (statusWord s).getLsbD 2 = s.win.avgv ∧ (statusWord s).getLsbD 3 = s.ctl.sw ∧
    (statusWord s).getLsbD 4 = s.ctl.edge ∧ (statusWord s).getLsbD 7 = false := by
  simp only [statusWord, BitVec.getLsbD_append]
  simp

theorem statusWord_fsm (s : State) : (statusWord s).extractLsb' 5 2 = s.ctl.fsm.code := by
  simp (disch := decide) only [statusWord, BitVec.extractLsb'_append_eq_of_le, BitVec.extractLsb'_append_eq_of_add_le]
  exact BitVec.extractLsb'_eq_self

theorem statusWord_last (s : State) : (statusWord s).extractLsb' 8 3 = s.port.last.code := by
  simp (disch := decide) only [statusWord, BitVec.extractLsb'_append_eq_of_le, BitVec.extractLsb'_append_eq_of_add_le]
  exact BitVec.extractLsb'_eq_self

theorem statusWord_reserved (s : State) : (statusWord s).extractLsb' 11 21 = 0 := by
  simp (disch := decide) only [statusWord, BitVec.extractLsb'_append_eq_of_le]
  exact BitVec.extractLsb'_eq_self

/-- Settles O14: the word read at address 0 is the pack of rule R13, field by field. -/
theorem statusPacksTheFlags : Obligations.StatusPacksTheFlags := by
  intro s
  obtain ⟨hhalt, hcalv, havgv, hsw, hedge, hzero⟩ := statusWord_flags s
  exact ⟨statusWord s, exec_rd_status s, hhalt, hcalv, havgv, hsw, hedge, statusWord_fsm s, hzero, statusWord_last s,
    statusWord_reserved s⟩

end Sys2Proof.Machine
end

section
/-! PROOF. The decoder and the encoder (30_encoding.md rules R70 to R78). A word is its three fields; the decoder reads
the operation code of an X-format word in the opcode table, and the encoder writes the same table. -/

namespace Sys2Proof

/-! ### The opcode table -/

/-- No operation code stands twice in the table. -/
theorem decodeOp_of_mem : ∀ row ∈ opcodeTable, decodeOp row.1 = some row.2 := by decide

/-- The encoder writes the operation code of the table and the ignored field as 0 (rule R72). -/
theorem encode_of_mem : ∀ row ∈ opcodeTable, encode row.2 = packWord 0b00 row.1 0 := by decide

theorem mem_of_decodeOp {op : BitVec 8} {i : Instr} (h : decodeOp op = some i) : (op, i) ∈ opcodeTable := by
  obtain ⟨row, hfind, rfl⟩ := Option.map_eq_some_iff.mp h
  have hop : row.1 = op := eq_of_beq (List.find?_some (p := fun row : BitVec 8 × Instr => row.1 == op) hfind)
  exact hop ▸ List.mem_of_find?_eq_some hfind

/-- Every instruction but WR and RD has a row. -/
theorem Instr.mem_opcodeTable_or (i : Instr) :
    (∃ op, (op, i) ∈ opcodeTable) ∨ (∃ addr data, i = .wr addr data) ∨ ∃ addr, i = .rd addr := by
  cases i with
  | wr addr data => exact .inr (.inl ⟨addr, data, rfl⟩)
  | rd addr => exact .inr (.inr ⟨addr, rfl⟩)
  | _ => exact .inl (by simp [opcodeTable])

/-- The codes without a row are the four ranges of rule R76. -/
theorem decodeOp_eq_none_iff (op : BitVec 8) : decodeOp op = none ↔ Rules.Unlisted op.toNat := by
  have hrows : decodeOp op = none ↔ ∀ row ∈ opcodeTable, row.1.toNat ≠ op.toNat := by
    simp only [decodeOp, Option.map_eq_none_iff, List.find?_eq_none, beq_iff_eq, BitVec.toNat_eq, ne_eq]
  rw [hrows, Rules.Unlisted]
  simp only [opcodeTable, List.forall_mem_cons, BitVec.reduceToNat, List.not_mem_nil, false_implies,
    implies_true, and_true]
  omega

/-! ### The decoder -/

section Decode

variable {w : CmdWord}

theorem decode_of_listed {i : Instr} (hk : fieldKind w = 0b00) (hop : decodeOp (fieldA w) = some i) :
    decode w = .ok i := by simp [decode, hk, hop]

theorem decode_of_unlisted (hk : fieldKind w = 0b00) (hop : decodeOp (fieldA w) = none) :
    decode w = .error (.unlistedOp (fieldA w)) := by simp [decode, hk, hop]

theorem decode_of_wr (hk : fieldKind w = 0b01) : decode w = .ok (.wr (fieldA w) (fieldD w)) := by simp [decode, hk]

theorem decode_of_rd (hk : fieldKind w = 0b10) : decode w = .ok (.rd (fieldA w)) := by simp [decode, hk]

theorem decode_of_reserved (hk : fieldKind w = 0b11) : decode w = .error .reservedKind := by simp [decode, hk]

/-- A word has one of the four formats (rule R71). -/
theorem fieldKind_cases (w : CmdWord) :
    fieldKind w = 0b00 ∨ fieldKind w = 0b01 ∨ fieldKind w = 0b10 ∨ fieldKind w = 0b11 :=
  (by decide : ∀ k : BitVec 2, k = 0b00 ∨ k = 0b01 ∨ k = 0b10 ∨ k = 0b11) (fieldKind w)

/-- All that the decoder accepts, format by format. -/
theorem decode_cases {i : Instr} (h : decode w = .ok i) :
    (fieldKind w = 0b00 ∧ decodeOp (fieldA w) = some i) ∨
    (fieldKind w = 0b01 ∧ i = .wr (fieldA w) (fieldD w)) ∨
    (fieldKind w = 0b10 ∧ i = .rd (fieldA w)) := by
  obtain hk | hk | hk | hk := fieldKind_cases w
  · cases hop : decodeOp (fieldA w) with
    | some j => exact .inl ⟨hk, congrArg some (Except.ok.inj (decode_of_listed hk hop ▸ h))⟩
    | none => exact nomatch decode_of_unlisted hk hop ▸ h
  · exact .inr (.inl ⟨hk, (Except.ok.inj (decode_of_wr hk ▸ h)).symm⟩)
  · exact .inr (.inr ⟨hk, (Except.ok.inj (decode_of_rd hk ▸ h)).symm⟩)
  · exact nomatch decode_of_reserved hk ▸ h

/-- The legal words: neither the reserved format nor an operation code without a row. -/
theorem exists_decode_iff (w : CmdWord) :
    (∃ i, decode w = .ok i) ↔ ¬(fieldKind w = 0b11 ∨ (fieldKind w = 0b00 ∧ decodeOp (fieldA w) = none)) := by
  constructor
  · rintro ⟨i, h⟩
    obtain ⟨hk, hop⟩ | ⟨hk, -⟩ | ⟨hk, -⟩ := decode_cases h
    · simp [hk, hop]
    · simp [hk]
    · simp [hk]
  · intro hlegal
    obtain hk | hk | hk | hk := fieldKind_cases w
    · obtain ⟨i, hop⟩ := Option.ne_none_iff_exists'.mp fun hop => hlegal (.inr ⟨hk, hop⟩)
      exact ⟨i, decode_of_listed hk hop⟩
    · exact ⟨_, decode_of_wr hk⟩
    · exact ⟨_, decode_of_rd hk⟩
    · exact absurd (.inl hk) hlegal

end Decode

/-- Settles O1: the instructions with a row go through the opcode table, WR and RD through the fields of the word. -/
theorem decodeOfEncode : Obligations.DecodeOfEncode := by
  intro i
  obtain ⟨op, hrow⟩ | ⟨addr, data, rfl⟩ | ⟨addr, rfl⟩ := i.mem_opcodeTable_or
  · rw [encode_of_mem _ hrow]
    exact decode_of_listed (by simp) (by simpa using decodeOp_of_mem _ hrow)
  · simp [encode, decode_of_wr]
  · simp [encode, decode_of_rd]

/-- Settles O2: an X or R word is rebuilt from its two fields, a W word from all three. -/
theorem encodeOfDecode : Obligations.EncodeOfDecode := by
  intro w i h
  obtain ⟨hk, hop⟩ | ⟨hk, rfl⟩ | ⟨hk, rfl⟩ := decode_cases h
  · simpa [hk] using encode_of_mem _ (mem_of_decodeOp hop)
  · rw [if_pos hk, encode, ← hk, packWord_fields]
  · simp [hk, encode]

/-! ### Illegal words -/

theorem fieldKind_toNat (w : CmdWord) : (fieldKind w).toNat = w.toNat / 2 ^ 40 := by
  rw [fieldKind, BitVec.extractLsb'_toNat, Nat.shiftRight_eq_div_pow]
  omega

theorem fieldA_toNat (w : CmdWord) : (fieldA w).toNat = w.toNat / 2 ^ 32 % 2 ^ 8 := by
  rw [fieldA, BitVec.extractLsb'_toNat, Nat.shiftRight_eq_div_pow]

/-- Settles O3: the two kinds of illegal word read as numbers, and the refusal by the two cases of `HALT`. -/
theorem illegalWordsAreRefused : Obligations.IllegalWordsAreRefused := by
  intro w
  refine ⟨?_, fun s e he => ⟨fun hrun => ?_, fun hhalt => ?_⟩⟩
  · rw [exists_decode_iff, decodeOp_eq_none_iff, BitVec.toNat_eq, BitVec.toNat_eq, fieldKind_toNat, fieldA_toNat]
    rfl
  · rw [Machine.commandCycle_of_error he, Machine.illegalCommand_of_running hrun]
    rfl
  · rw [Machine.commandCycle_of_error he, Machine.illegalCommand_of_halt hhalt]
    rfl

/-! ### Words -/

/-- Settles O4: each word decoded. -/
theorem wordsOfTheSpecDecode : Obligations.WordsOfTheSpecDecode := by
  unfold Obligations.WordsOfTheSpecDecode
  decide

/-- Settles O5: the data is below 2^32, so joining the bits is adding the numbers. -/
theorem responseWordHoldsStatusAndData : Obligations.ResponseWordHoldsStatusAndData := by
  intro st d
  rw [Machine.rspWord, BitVec.toNat_append, ← Nat.shiftLeft_add_eq_or_of_lt d.isLt, Nat.shiftLeft_eq]

end Sys2Proof
end

section
/-! PROOF. The word operations of the formulas as operations on whole numbers: each sum, difference, product, left shift and
quotient is the exact one, wrapped (00_scope.md section 5.2, rule R6); a right shift `>>a` rounds down and never wraps. -/

namespace Sys2Proof.Rules

open Sys2Proof

variable {w : Nat} (x y : BitVec w)

theorem toInt_add_eq_wrap : (x + y).toInt = wrap w (x.toInt + y.toInt) := BitVec.toInt_add x y

theorem toInt_sub_eq_wrap : (x - y).toInt = wrap w (x.toInt - y.toInt) := BitVec.toInt_sub

theorem toInt_mul_eq_wrap : (x * y).toInt = wrap w (x.toInt * y.toInt) := BitVec.toInt_mul x y

theorem toInt_sdiv_eq_wrap : (x.sdiv y).toInt = wrap w (x.toInt.tdiv y.toInt) := BitVec.toInt_sdiv x y

theorem toInt_shiftLeft_eq_wrap (k : Nat) : (x <<< k).toInt = wrap w (x.toInt * 2 ^ k) := by
  rw [BitVec.toInt_shiftLeft, Nat.shiftLeft_eq, wrap, BitVec.toInt_eq_toNat_bmod, Int.bmod_mul_bmod]
  norm_cast

theorem toInt_sshiftRight_eq_shr (k : Nat) : (x.sshiftRight k).toInt = shr x.toInt k := by
  rw [BitVec.toInt_sshiftRight, Int.shiftRight_eq_div_pow, shr, Int.fdiv_eq_ediv_of_nonneg _ (by positivity)]
  norm_cast

/-- A signed register read as the wrap of its unsigned value. -/
theorem wrap_toNat : wrap w x.toNat = x.toInt := (BitVec.toInt_eq_toNat_bmod x).symm

/-- An unsigned operand widened by value (40_compensation.md rules R93 to R95). -/
theorem toInt_setWidth_of_lt {v : Nat} (h : w < v) : (x.setWidth v).toInt = x.toNat := by
  have hx : x.toNat < 2 ^ w := x.isLt
  have hv : 2 ^ (w + 1) ≤ 2 ^ v := Nat.pow_le_pow_right (by decide) h
  have hwide : (x.setWidth v).toNat = x.toNat := BitVec.toNat_setWidth_of_le h.le
  rw [BitVec.toInt_eq_toNat_of_lt (by omega), hwide]

/-- The low bits of a word hold its value, wrapped. -/
theorem ofInt_toInt_eq_setWidth {v : Nat} (h : v ≤ w) : BitVec.ofInt v x.toInt = x.setWidth v := by
  apply BitVec.eq_of_toInt_eq
  rw [BitVec.toInt_ofInt, BitVec.toInt_setWidth, BitVec.toInt_eq_toNat_bmod, Int.bmod_bmod_of_dvd]
  exact Nat.pow_dvd_pow 2 h

end Sys2Proof.Rules
end

section
/-! PROOF. The formulas of the CompensationEngine (40_compensation.md rules R91 to R95): what the words hold that the machine
computes is what the rules compute over whole numbers, for all operand values. -/

namespace Sys2Proof.Machine

open Sys2Proof Sys2Proof.Rules

/-! ### LDCAL (rule R91) -/

theorem le16_toNat (lo hi : Byte) : ((le16 lo hi).toNat : Int) = u16le lo hi := by
  rw [le16, BitVec.toNat_append, ← Nat.shiftLeft_add_eq_or_of_lt lo.isLt, Nat.shiftLeft_eq, u16le]
  push_cast
  ring

theorem le16_toInt (lo hi : Byte) : (le16 lo hi).toInt = s16le lo hi := by
  rw [s16le, ← le16_toNat, wrap_toNat]

theorem msbValue_signed (hi : Byte) : msbValue true hi = hi.toInt := by rw [msbValue, if_pos rfl, wrap_toNat]

theorem msbValue_unsigned (hi : Byte) : msbValue false hi = hi.toNat := rfl

/-- The high byte of H4 and H5, widened, has the value rule R91 reads. -/
theorem toInt_widened_msb (signedMsb : Bool) (hi : Byte) :
    (if signedMsb then hi.signExtend 16 else hi.setWidth 16).toInt = msbValue signedMsb hi := by
  cases signedMsb with
  | true => rw [if_pos rfl, BitVec.toInt_signExtend_of_le (by decide), msbValue_signed]
  | false => exact toInt_setWidth_of_lt hi (by decide)

theorem msbValue_bounds (signedMsb : Bool) (hi : Byte) :
    -128 ≤ msbValue signedMsb hi ∧ msbValue signedMsb hi < 256 := by
  have hlt : hi.toNat < 256 := hi.isLt
  cases signedMsb with
  | true =>
    have hlow := BitVec.le_toInt hi
    have hhigh := BitVec.toInt_lt (x := hi)
    rw [msbValue_signed]
    omega
  | false => rw [msbValue_unsigned]; omega

/-- Neither reading of the high byte overflows the sixteen bits of H4 and H5. -/
theorem packNibble_toInt (signedMsb : Bool) (hi : Byte) (nibble : BitVec 4) :
    (packNibble signedMsb hi nibble).toInt = msbValue signedMsb hi * 16 + nibble.toNat := by
  have hbounds := msbValue_bounds signedMsb hi
  have hnibble := nibble.isLt
  rw [packNibble, toInt_add_eq_wrap, toInt_shiftLeft_eq_wrap, toInt_widened_msb, toInt_setWidth_of_lt _ (by decide)]
  simp only [wrap, Int.bmod_add_bmod]
  exact Int.bmod_eq_of_le (by omega) (by omega)

theorem low_nibble_toNat (b : Byte) : (b.extractLsb' 0 4).toNat = b.toNat % 16 := by
  rw [BitVec.extractLsb'_toNat, Nat.shiftRight_zero]

theorem high_nibble_toNat (b : Byte) : (b.extractLsb' 4 4).toNat = b.toNat / 16 := by
  rw [BitVec.extractLsb'_toNat, Nat.shiftRight_eq_div_pow]
  omega

/-- The parsed coefficients have the values of rule R91. -/
theorem parseCalibration_parsed (signedMsb : Bool) (b1 : Vector Byte 26) (b2 : Vector Byte 7) :
    Parsed signedMsb b1 b2 (parseCalibration signedMsb b1 b2) := by
  simp only [Parsed, parseCalibration, le16_toNat, le16_toInt, packNibble_toInt, low_nibble_toNat, high_nibble_toNat,
    wrap_toNat, Nat.cast_ofNat, and_self]

/-! ### UNPACK (rule R92) -/

/-- The pack of two bytes and the high nibble of a third is their big-endian number shifted right by 4. -/
theorem raw20_toNat (b0 b1 b2 : Byte) :
    (raw20 b0 b1 b2).toNat = (b0.toNat * 65536 + b1.toNat * 256 + b2.toNat) / 16 := by
  have hnibble : (b2.extractLsb' 4 4).toNat < 2 ^ 4 := (b2.extractLsb' 4 4).isLt
  rw [raw20, BitVec.toNat_append, ← Nat.shiftLeft_add_eq_or_of_lt hnibble, BitVec.toNat_append,
    ← Nat.shiftLeft_add_eq_or_of_lt b1.isLt, Nat.shiftLeft_eq, Nat.shiftLeft_eq, high_nibble_toNat]
  omega

theorem rawHumidity_toNat (b0 b1 : Byte) : (b0 ++ b1 : BitVec 16).toNat = b0.toNat * 256 + b1.toNat := by
  rw [BitVec.toNat_append, ← Nat.shiftLeft_add_eq_or_of_lt b1.isLt, Nat.shiftLeft_eq]

/-! ### COMPT (rule R93) -/

theorem fineTemperature_toInt (c : Compensation) :
    (fineTemperature c).toInt = fineTemp c.rawT.toNat c.coef.t1.toNat c.coef.t2.toInt c.coef.t3.toInt := by
  simp (disch := decide) only [fineTemperature, fineTemp, toInt_add_eq_wrap, toInt_sub_eq_wrap, toInt_mul_eq_wrap,
    toInt_shiftLeft_eq_wrap, toInt_sshiftRight_eq_shr, toInt_setWidth_of_lt, BitVec.toInt_signExtend_of_le]

theorem centidegrees_toInt (fine : Word) : (centidegrees fine).toInt = temperature fine.toInt := by
  simp only [centidegrees, temperature, toInt_add_eq_wrap, toInt_mul_eq_wrap, toInt_sshiftRight_eq_shr,
    BitVec.reduceToInt]

/-! ### COMPP (rule R94) -/

theorem pressureVariable_toInt (fine : Word) :
    (fine.signExtend 64 - Config.pOffset).toInt = wrap 64 (fine.toInt - 128000) := by
  rw [toInt_sub_eq_wrap, BitVec.toInt_signExtend_of_le (by decide)]
  rfl

theorem pressureDenominator_toInt (c : CalibrationData) (x : DWord) :
    (pressureDenominator c x).toInt = denominator x.toInt c.p1.toNat c.p2.toInt c.p3.toInt := by
  have hone : ((1 : DWord) <<< 47).toInt = 2 ^ 47 := by decide
  simp (disch := decide) only [pressureDenominator, denominator, toInt_add_eq_wrap, toInt_mul_eq_wrap, hone,
    toInt_shiftLeft_eq_wrap, toInt_sshiftRight_eq_shr, toInt_setWidth_of_lt, BitVec.toInt_signExtend_of_le]

/-- The machine guards the word against 0 and the rule its value; past the guard the two formulas agree line by line. -/
theorem pressureQ8_eq_pressure (c : Compensation) :
    pressureQ8 c = BitVec.ofInt 32 (pressure c.rawP.toNat c.tFine.toInt c.coef.p1.toNat c.coef.p2.toInt c.coef.p3.toInt
      c.coef.p4.toInt c.coef.p5.toInt c.coef.p6.toInt c.coef.p7.toInt c.coef.p8.toInt c.coef.p9.toInt) := by
  simp only [pressureQ8, pressure, ← pressureVariable_toInt, ← pressureDenominator_toInt]
  generalize c.tFine.signExtend 64 - Config.pOffset = x
  generalize pressureDenominator c.coef x = v1
  by_cases hzero : v1 = 0
  · simp [hzero]
  · have hzero' : v1.toInt ≠ 0 := fun h => hzero (BitVec.eq_of_toInt_eq h)
    rw [if_neg hzero, if_neg hzero', ← ofInt_toInt_eq_setWidth _ (by decide)]
    simp (disch := decide) only [pressureQuotient, pressureOffset, toInt_add_eq_wrap, toInt_sub_eq_wrap, toInt_mul_eq_wrap,
      toInt_sdiv_eq_wrap, toInt_shiftLeft_eq_wrap, toInt_sshiftRight_eq_shr, toInt_setWidth_of_lt,
      BitVec.toInt_signExtend_of_le, BitVec.reduceToInt]

/-- Corner case (a) of rule R94: without `P1` the denominator is 0, whatever the other operands are. -/
theorem pressureQ8_of_p1_zero {c : Compensation} (h : c.coef.p1 = 0) : pressureQ8 c = 0 := by
  have hzero (x : DWord) : pressureDenominator c.coef x = 0 := by simp [pressureDenominator, h]
  rw [pressureQ8, if_pos (hzero _)]

/-! ### COMPH (rule R95) -/

/-- The clamp, first from below and then from above, as the rule has it. -/
theorem clampHumidity_toInt (v : Word) :
    (clampHumidity v).toInt =
      if 419430400 < (if v.toInt < 0 then 0 else v.toInt) then 419430400 else if v.toInt < 0 then 0 else v.toInt := by
  have hmax : Config.humClampMax.toInt = 419430400 := by decide
  by_cases hneg : v.toInt < 0
  · simp [clampHumidity, hneg]
  · simp only [clampHumidity, hneg, if_false, hmax, apply_ite BitVec.toInt]

theorem clampHumidity_bounds (v : Word) : 0 ≤ (clampHumidity v).toInt ∧ (clampHumidity v).toInt ≤ 419430400 := by
  rw [clampHumidity_toInt]
  split_ifs <;> omega

theorem humidityQ10_toInt (c : Compensation) :
    (humidityQ10 c).toInt = humidity c.rawH.toNat c.tFine.toInt c.coef.h1.toNat c.coef.h2.toInt c.coef.h3.toNat
      c.coef.h4.toInt c.coef.h5.toInt c.coef.h6.toInt := by
  simp (disch := decide) only [humidityQ10, humidity, toInt_sshiftRight_eq_shr, clampHumidity_toInt, humidityIntermediate,
    toInt_add_eq_wrap, toInt_sub_eq_wrap, toInt_mul_eq_wrap, toInt_shiftLeft_eq_wrap, toInt_setWidth_of_lt,
    BitVec.toInt_signExtend_of_le, BitVec.reduceToInt]

/-- The clamp bounds the humidity by 419430400 / 2^12 (rule R100). -/
theorem humidityQ10_le (c : Compensation) : (humidityQ10 c).toNat ≤ 102400 := by
  obtain ⟨hlow, hhigh⟩ := clampHumidity_bounds (humidityIntermediate c)
  have hshift : (humidityQ10 c).toInt = (clampHumidity (humidityIntermediate c)).toInt / 2 ^ 12 := by
    rw [humidityQ10, toInt_sshiftRight_eq_shr, shr, Int.fdiv_eq_ediv_of_nonneg _ (by decide)]
  have hvalue := BitVec.toInt_eq_toNat_cond (humidityQ10 c)
  split at hvalue <;> omega

end Sys2Proof.Machine
end

section
/-! PROOF. The commands of the CompensationEngine (40_compensation.md rules R90 to R96): the registers each writes as one function
of the registers before, the whole next state of each, and RDALL as the chain of those functions after its read. -/

namespace Sys2Proof.Machine

open Sys2Proof Sys2Proof.Rules

/-! ### The frame of a command -/

section Frame

variable {s t : State} {op : BitVec 8} {body : State → Result}

theorem runExec_of_ret {st : Status} (hrun : s.port.halt = false) (hbody : body s = ret st t) :
    runExec op body s = .next (afterStatus t st) := by
  rw [runExec_of_running hrun, hbody]
  rfl

theorem runExec_of_calibrationError (hrun : s.port.halt = false) (hbody : body s = raise .calibrationError s) :
    runExec op body s = .next (afterFatal s op .calibrationError) := by
  rw [runExec_of_running hrun, hbody]
  rfl

end Frame

/-! ### What each operation leaves in the registers -/

/-- The registers after UNPACK. -/
def Compensation.unpacked (c : Compensation) : Compensation :=
  { c with
    rawP := raw20 c.dbuf[0] c.dbuf[1] c.dbuf[2]
    rawT := raw20 c.dbuf[3] c.dbuf[4] c.dbuf[5]
    rawH := c.dbuf[6] ++ c.dbuf[7] }

/-- The registers after COMPT. -/
def Compensation.withTemperature (c : Compensation) : Compensation :=
  { c with tFine := fineTemperature c, sample.temp := centidegrees (fineTemperature c) }

/-- The registers after COMPP. -/
def Compensation.withPressure (c : Compensation) : Compensation := { c with sample.press := pressureQ8 c }

/-- The registers after COMPH. -/
def Compensation.withHumidity (c : Compensation) : Compensation := { c with sample.hum := humidityQ10 c }

/-- The registers after a block is stored and compensated, the four operations in the mandated order (rule R96). -/
def Compensation.compensated (c : Compensation) (bytes : Vector Byte 8) : Compensation :=
  ({ c with dbuf := bytes } : Compensation).unpacked.withTemperature.withPressure.withHumidity

theorem opUnpack_eq (s : State) : opUnpack s = ret .ok { s with comp := s.comp.unpacked } := rfl

section Operations

variable {s : State}

theorem opLdcal_of_lengths (h : s.comp.cb1len = 26 ∧ s.comp.cb2len = 7) :
    opLdcal s = ret .ok { s with
      comp.coef := parseCalibration s.cfg.h45SignedMsb s.comp.cb1 s.comp.cb2
      comp.calv := true } := by
  rw [opLdcal, if_pos ((calLengthsOk_iff _).mpr h)]

theorem opLdcal_of_wrong_length (h : s.comp.cb1len ≠ 26 ∨ s.comp.cb2len ≠ 7) :
    opLdcal s = raise .calibrationError s := by
  rw [opLdcal, if_neg (by rw [calLengthsOk_iff]; tauto)]

theorem opCompt_of_calv (h : s.comp.calv = true) : opCompt s = ret .ok { s with comp := s.comp.withTemperature } :=
  needCalibration_of_calv h _

theorem opCompp_of_calv (h : s.comp.calv = true) : opCompp s = ret .ok { s with comp := s.comp.withPressure } :=
  needCalibration_of_calv h _

theorem opComph_of_calv (h : s.comp.calv = true) : opComph s = ret .ok { s with comp := s.comp.withHumidity } :=
  needCalibration_of_calv h _

theorem compensateBlock_eq_compensated (h : s.comp.calv = true) (bytes : Vector Byte 8) :
    compensateBlock bytes s = ret .ok { s with comp := s.comp.compensated bytes } := by
  rw [compensateBlock, opUnpack_eq, andThen_ret, opCompt_of_calv (by exact h), andThen_ret, opCompp_of_calv (by exact h),
    andThen_ret, opComph_of_calv (by exact h), andThen_ret]
  rfl

theorem opRdall_of_ok {bytes : Vector Byte 8} {rest : List (Answer 8)} (h : s.comp.calv = true)
    (hdata : s.env.data = .ok bytes :: rest) :
    opRdall s = ret .ok { (readData s).2 with comp := s.comp.compensated bytes } := by
  rw [opRdall, needCalibration_of_calv h, readData_of_cons hdata]
  exact compensateBlock_eq_compensated (s := (readData s).2) h bytes

theorem opRdall_of_err {rest : List (Answer 8)} (h : s.comp.calv = true) (hdata : s.env.data = .err :: rest) :
    opRdall s = ret .transportError (readData s).2 := by
  rw [opRdall, needCalibration_of_calv h, readData_of_cons hdata]

theorem opTickseq_of_not_calv (h : s.comp.calv = false) : opTickseq s = raise .calibrationError s := by
  rw [opTickseq, opRdall, needCalibration_of_not_calv h, andThen_raise]

/-- A command that took one answer and wrote compensation registers. -/
theorem afterStatus_readData {a : Answer 8} {rest : List (Answer 8)} (hdata : s.env.data = a :: rest) (c : Compensation)
    (st : Status) :
    afterStatus { (readData s).2 with comp := c } st = { s with
      comp := c
      port.last := st
      env.data := rest
      env.trace := s.env.trace ++ [.xportRead s.cfg.dataAddr 8, .response (rspWord st 0)] } := by
  simp [afterStatus, readData, put, hdata]

end Operations

/-! ### The commands -/

section Commands

variable {s : State}

theorem exec_unpack (hrun : s.port.halt = false) :
    exec .unpack s = .next (afterStatus { s with comp := s.comp.unpacked } .ok) :=
  runExec_of_ret hrun (opUnpack_eq s)

theorem exec_compt_of_calv (hrun : s.port.halt = false) (hcalv : s.comp.calv = true) :
    exec .compt s = .next (afterStatus { s with comp := s.comp.withTemperature } .ok) :=
  runExec_of_ret hrun (opCompt_of_calv hcalv)

theorem exec_compp_of_calv (hrun : s.port.halt = false) (hcalv : s.comp.calv = true) :
    exec .compp s = .next (afterStatus { s with comp := s.comp.withPressure } .ok) :=
  runExec_of_ret hrun (opCompp_of_calv hcalv)

theorem exec_comph_of_calv (hrun : s.port.halt = false) (hcalv : s.comp.calv = true) :
    exec .comph s = .next (afterStatus { s with comp := s.comp.withHumidity } .ok) :=
  runExec_of_ret hrun (opComph_of_calv hcalv)

end Commands

/-! ### The statements -/

/-- Settles O22: the parsed coefficients have the values of R91, and a wrong length raises before anything is written. -/
theorem ldcalParsesTheBlocks : Obligations.LdcalParsesTheBlocks := by
  refine ⟨by decide, fun s hrun => ⟨fun hlen => ?_, fun hlen => ?_⟩⟩
  · exact ⟨_, parseCalibration_parsed _ _ _, runExec_of_ret hrun (opLdcal_of_lengths hlen)⟩
  · exact runExec_of_calibrationError hrun (opLdcal_of_wrong_length hlen)

/-- Settles O23: the packed bits of each raw value are the shifted big-endian number. -/
theorem unpackExtractsRawSample : Obligations.UnpackExtractsRawSample :=
  ⟨by decide, fun _ hrun =>
    ⟨_, _, _, raw20_toNat _ _ _, raw20_toNat _ _ _, rawHumidity_toNat _ _, exec_unpack hrun⟩⟩

/-- Settles O24: the words of COMPT hold the values of the formula. -/
theorem comptFollowsItsFormula : Obligations.ComptFollowsItsFormula := by
  refine ⟨by decide, fun s hrun => ⟨fun hcalv => ?_, fun hcalv => ?_⟩⟩
  · simp only [← fineTemperature_toInt, ← centidegrees_toInt, BitVec.ofInt_toInt]
    exact exec_compt_of_calv hrun hcalv
  · exact runExec_of_calibrationError hrun (needCalibration_of_not_calv hcalv _)

/-- Settles O25: the word of COMPP holds the low half of the value of the formula. -/
theorem comppFollowsItsFormula : Obligations.ComppFollowsItsFormula := by
  refine ⟨by decide, fun s hrun => ⟨fun hcalv => ?_, fun hcalv => ?_⟩⟩
  · rw [← pressureQ8_eq_pressure]
    exact exec_compp_of_calv hrun hcalv
  · exact runExec_of_calibrationError hrun (needCalibration_of_not_calv hcalv _)

/-- Settles O26: the word of COMPH holds the value of the formula. -/
theorem comphFollowsItsFormula : Obligations.ComphFollowsItsFormula := by
  refine ⟨by decide, fun s hrun => ⟨fun hcalv => ?_, fun hcalv => ?_⟩⟩
  · rw [← humidityQ10_toInt, BitVec.ofInt_toInt]
    exact exec_comph_of_calv hrun hcalv
  · exact runExec_of_calibrationError hrun (needCalibration_of_not_calv hcalv _)

/-- Settles O27: the clamp before the last shift bounds `HUM`. -/
theorem humidityStaysInRange : Obligations.HumidityStaysInRange := by
  intro s t h hrun hcalv
  obtain rfl := Host.Outcome.next.inj ((exec_comph_of_calv hrun hcalv).symm.trans h)
  exact humidityQ10_le s.comp

/-- Settles O30: both sides are the same chain of register functions on the block that was read. -/
theorem rdallIsReadThenTheFourSteps : Obligations.RdallIsReadThenTheFourSteps := by
  refine fun s hrun hcalv => ⟨fun bytes rest hdata => ?_, fun rest hdata => ?_⟩
  · refine ⟨_, _, _, _, exec_unpack hrun, exec_compt_of_calv hrun hcalv, exec_compp_of_calv hrun hcalv,
      exec_comph_of_calv hrun hcalv, ?_⟩
    exact (runExec_of_ret hrun (opRdall_of_ok hcalv hdata)).trans (congrArg _ (afterStatus_readData hdata _ _))
  · exact (runExec_of_ret hrun (opRdall_of_err hcalv hdata)).trans (congrArg _ (afterStatus_readData hdata s.comp _))

/-- Settles O28: without `P1` the denominator is 0, and the guard gives 0. -/
theorem zeroGuardGivesZeroPressure : Obligations.ZeroGuardGivesZeroPressure := by
  intro s hrun hcalv hp1
  rw [← pressureQ8_of_p1_zero hp1]
  exact exec_compp_of_calv hrun hcalv

/-- Settles O29: each operation asks for the calibration first; UNPACK and LDCAL do not ask. -/
theorem uncalibratedOperationsAreFatal : Obligations.UncalibratedOperationsAreFatal := by
  intro s hrun hcalv
  exact ⟨runExec_of_calibrationError hrun (needCalibration_of_not_calv hcalv _),
    runExec_of_calibrationError hrun (needCalibration_of_not_calv hcalv _),
    runExec_of_calibrationError hrun (needCalibration_of_not_calv hcalv _),
    runExec_of_calibrationError hrun (needCalibration_of_not_calv hcalv _),
    runExec_of_calibrationError hrun (needCalibration_of_not_calv hcalv _),
    runExec_of_calibrationError hrun (opTickseq_of_not_calv hcalv),
    ⟨_, exec_unpack hrun, hrun⟩,
    fun hlen => ⟨_, runExec_of_ret hrun (opLdcal_of_lengths hlen), hrun⟩⟩

end Sys2Proof.Machine
end

section
/-! PROOF. No addition or subtraction on `WSUM` rounds while the temperatures are within their bound (41_window.md rule R117).
An entry is a whole number of units 2^-30 of magnitude at most 2^17, so a sum of up to 60 entries is a whole number of those
units of magnitude below 2^23: it has at most 53 bits, and binary64 holds it. -/

namespace Sys2Proof.Machine

open Sys2Proof

/-! ### Numbers a format holds -/

/-- A format has a pattern for every number of at most `frac + 1` significant bits. -/
theorem exists_magnitudeUnits_eq (f : Format) {n : ℕ} (hn : n < 2 ^ (f.frac + 1)) (j : ℕ) :
    ∃ k, magnitudeUnits f k = n * 2 ^ j := by
  have hnormal {n : ℕ} (h : 2 ^ f.frac ≤ n) (hn : n < 2 ^ (f.frac + 1)) (e : ℕ) :
      ∃ k, magnitudeUnits f k = n * 2 ^ e := by
    rw [Nat.pow_succ'] at hn
    exact ⟨_, (magnitudeUnits_normal f e (m := n - 2 ^ f.frac) (by omega)).trans (by rw [Nat.add_sub_cancel' h])⟩
  induction j generalizing n with
  | zero =>
    obtain h | h := Nat.lt_or_ge n (2 ^ f.frac)
    · exact ⟨n, by rw [magnitudeUnits_subnormal f h, Nat.pow_zero, Nat.mul_one]⟩
    · exact hnormal h hn 0
  | succ j ih =>
    obtain h | h := Nat.lt_or_ge n (2 ^ f.frac)
    · rw [Nat.pow_succ', ← Nat.mul_assoc]
      exact ih (by rw [Nat.pow_succ]; omega)
    · exact hnormal h hn (j + 1)

/-- The signed form: a whole number of units `2 ^ -e` that fits the significand is the value of a pattern. -/
theorem exists_valueOf_eq (f : Format) {m : ℤ} (hm : |m| < 2 ^ (f.frac + 1)) {e : ℕ} (he : e ≤ f.scale) :
    ∃ neg k, (valueOf f neg k).toRat = m / 2 ^ e := by
  rw [Int.abs_eq_natAbs] at hm
  obtain ⟨k, hk⟩ := exists_magnitudeUnits_eq f (n := m.natAbs) (by exact_mod_cast hm) (f.scale - e)
  have hscale : (2 : ℚ) ^ f.scale = 2 ^ (f.scale - e) * 2 ^ e := by rw [← pow_add, Nat.sub_add_cancel he]
  refine ⟨decide (m < 0), k, ?_⟩
  have hnum : (valueOf f (decide (m < 0)) k).num = m * 2 ^ (f.scale - e) := by
    rw [valueOf, hk]
    push_cast
    obtain h | h := lt_or_ge m 0
    · simp [h, abs_of_neg h]
    · simp [h.not_gt, abs_of_nonneg h]
  rw [Frac.toRat, hnum, valueOf]
  push_cast
  rw [hscale]
  field_simp

/-- No number of binary32 is nearer to a quotient than its rounding. -/
theorem rnd32_nearest {q : Frac} (hq : 0 < q.den) (h : |q.toRat| < 2 ^ 128 - 2 ^ 103) {m : ℤ} (hm : |m| < 2 ^ 24) {e : ℕ}
    (he : e ≤ 149) : |real32 (rnd32 q) - q.toRat| ≤ |m / 2 ^ e - q.toRat| := by
  rw [← overflowUnits_binary32] at h
  obtain ⟨neg, k, hk⟩ := exists_valueOf_eq binary32 hm he
  rw [← hk]
  exact (valueOf_roundMagnitude_nearest (by decide) (by decide) hq h neg k (value32_rnd32 q)).1

/-- A quotient that is a number of binary64 is not rounded. -/
theorem rnd64_exact {q : Frac} (hq : 0 < q.den) (h : |q.toRat| < 2 ^ 1024 - 2 ^ 970) {m : ℤ} (hm : |m| < 2 ^ 53) {e : ℕ}
    (he : e ≤ 1074) (hval : q.toRat = m / 2 ^ e) : real64 (rnd64 q) = q.toRat := by
  rw [← overflowUnits_binary64] at h
  obtain ⟨neg, k, hk⟩ := exists_valueOf_eq binary64 hm he
  have hnear := (valueOf_roundMagnitude_nearest (by decide) (by decide) hq h neg k (value64_rnd64 q)).1
  rw [hk, ← hval, sub_self, abs_zero, abs_nonpos_iff, sub_eq_zero] at hnear
  exact hnear

/-! ### One entry -/

/-- What `n` entries can sum up to: a whole number of units 2^-30, of magnitude at most `n * 2^17`. -/
def SumOfEntries (n : ℕ) (x : ℚ) : Prop := (∃ m : ℤ, x = m / 2 ^ 30) ∧ |x| ≤ n * 2 ^ 17

/-- A binary32 number from 2^-7 on is a whole number of units 2^-30: from there on its last bit is worth at least that. -/
theorem whole_units_of_le {x : Word} (h : 1 / 2 ^ 7 ≤ |real32 x|) : ∃ m : ℤ, real32 x = m / 2 ^ 30 := by
  have hunits : 2 ^ 142 ≤ magnitudeUnits binary32 (x.toNat % 2 ^ 31) := by
    rw [real32, value32, abs_valueOf, show binary32.scale = 149 from rfl, le_div_iff₀ (by positivity)] at h
    have hval : (1 / 2 ^ 7 * 2 ^ 149 : ℚ) = (2 ^ 142 : ℕ) := by norm_num
    rw [hval] at h
    exact_mod_cast h
  have hdvd : 2 ^ 119 ∣ magnitudeUnits binary32 (x.toNat % 2 ^ 31) :=
    (magnitudeUnits_dvd_or_lt binary32 _ 119).resolve_right fun hlt => absurd hlt.2 (by
      rw [show binary32.frac = 23 from rfl, ← pow_add]; exact hunits.not_gt)
  have hnum : (2 : ℤ) ^ 119 ∣ (value32 x).num := by
    rw [← dvd_abs, value32, abs_valueOf_num]
    exact_mod_cast hdvd
  obtain ⟨m, hm⟩ := hnum
  refine ⟨m, ?_⟩
  rw [real32, Frac.toRat, hm, show (value32 x).den = 2 ^ 149 from rfl]
  push_cast
  ring

section Entry

variable {t : Word}

/-- The exact quotient of which an entry is the rounding. -/
theorem celsius_toRat (t : Word) : (⟨t.toInt, Config.divT⟩ : Frac).toRat = t.toInt / 100 := by
  rw [Frac.toRat]
  norm_num

/-- No number of binary32 is nearer to the exact temperature than the entry. -/
theorem cdegF32_nearest (ht : Temperate t) {m : ℤ} (hm : |m| < 2 ^ 24) {e : ℕ} (he : e ≤ 149) :
    |real32 (cdegF32 t) - t.toInt / 100| ≤ |(m / 2 ^ e : ℚ) - t.toInt / 100| := by
  have ht' : |(t.toInt : ℚ)| ≤ 13000000 := by exact_mod_cast ht
  have hlt : |(⟨t.toInt, Config.divT⟩ : Frac).toRat| < 2 ^ 128 - 2 ^ 103 := by
    rw [celsius_toRat, abs_div, abs_of_pos (show (0 : ℚ) < 100 by norm_num)]
    linarith
  rw [← celsius_toRat, cdegF32]
  exact rnd32_nearest (show 0 < Config.divT by decide) hlt hm he

/-- A temperature within the bound is at most 130000 °C, so its entry is at most 2^17. -/
theorem abs_entry_le (ht : Temperate t) : |real32 (cdegF32 t)| ≤ 2 ^ 17 := by
  obtain ⟨hlow, hhigh⟩ := abs_le.mp (show |(t.toInt : ℚ)| ≤ 13000000 by exact_mod_cast ht)
  have hup := cdegF32_nearest ht (m := 2 ^ 17) (by decide) (Nat.zero_le _)
  have hdown := cdegF32_nearest ht (m := -2 ^ 17) (by decide) (Nat.zero_le _)
  push_cast at hup hdown
  rw [abs_of_nonneg (a := _ / _ - _) (by linarith)] at hup
  rw [abs_of_nonpos (a := _ / _ - _) (by linarith)] at hdown
  rw [abs_le] at hup hdown ⊢
  constructor <;> linarith

/-- A temperature other than 0 is at least 0.01 °C, so its entry is at least 2^-7. -/
theorem le_abs_entry (ht : Temperate t) (h0 : t.toInt ≠ 0) : 1 / 2 ^ 7 ≤ |real32 (cdegF32 t)| := by
  obtain h | h : t.toInt ≤ -1 ∨ 1 ≤ t.toInt := by omega
  · have hcold : (t.toInt : ℚ) ≤ -1 := by exact_mod_cast h
    have hnear := cdegF32_nearest ht (m := -1) (by decide) (show 7 ≤ 149 by decide)
    push_cast at hnear
    rw [abs_of_nonneg (a := _ / _ - _) (by linarith), abs_le] at hnear
    exact le_abs.mpr (.inr (by linarith))
  · have hwarm : (1 : ℚ) ≤ t.toInt := by exact_mod_cast h
    have hnear := cdegF32_nearest ht (m := 1) (by decide) (show 7 ≤ 149 by decide)
    push_cast at hnear
    rw [abs_of_nonpos (a := _ / _ - _) (by linarith), abs_le] at hnear
    exact le_abs.mpr (.inl (by linarith))

theorem real32_cdegF32_of_zero (h0 : t.toInt = 0) : real32 (cdegF32 t) = 0 := by
  have hzero : rnd32 ⟨t.toInt, Config.divT⟩ = 0 :=
    ((roundingIsNearestEven ⟨t.toInt, Config.divT⟩ (show 0 < Config.divT by decide)).2.2.1 h0).1
  rw [cdegF32, hzero, real32_zero]

theorem sumOfEntries_entry (ht : Temperate t) : SumOfEntries 1 (real32 (cdegF32 t)) := by
  refine ⟨?_, by simpa using abs_entry_le ht⟩
  by_cases h0 : t.toInt = 0
  · exact ⟨0, by rw [real32_cdegF32_of_zero h0]; simp⟩
  · exact whole_units_of_le (le_abs_entry ht h0)

end Entry

/-! ### The sum of the entries -/

theorem sumOfEntries_zero : SumOfEntries 0 0 := ⟨⟨0, by simp⟩, by simp⟩

theorem SumOfEntries.add {m n : ℕ} {x y : ℚ} (hx : SumOfEntries m x) (hy : SumOfEntries n y) :
    SumOfEntries (m + n) (x + y) := by
  obtain ⟨⟨a, rfl⟩, hx⟩ := hx
  obtain ⟨⟨b, rfl⟩, hy⟩ := hy
  refine ⟨⟨a + b, by push_cast; ring⟩, (abs_add_le _ _).trans ?_⟩
  push_cast
  linarith

/-- The live entries of a window of length `n`, all within the bound, sum up to what `n` entries can. -/
theorem sumOfEntries_liveSum {w : Window} (h : ∀ k < w.wlen.val, Temperate (w.live k).temp) :
    SumOfEntries w.wlen.val w.liveSum := by
  unfold Window.liveSum
  generalize w.wlen.val = n at h ⊢
  induction n with
  | zero => exact sumOfEntries_zero
  | succ n ih =>
    rw [List.sum_range_succ]
    exact (ih fun k hk => h k (by omega)).add (sumOfEntries_entry (h n (by omega)))

/-- Binary64 holds the sum of up to 60 entries. -/
theorem rnd64_of_sumOfEntries {q : Frac} (hq : 0 < q.den) {n : ℕ} (hn : n ≤ 60) (h : SumOfEntries n q.toRat) :
    finite64 (rnd64 q) ∧ real64 (rnd64 q) = q.toRat := by
  obtain ⟨⟨m, hm⟩, hle⟩ := h
  have hlt : |q.toRat| < 2 ^ 23 := by
    have hn' : (n : ℚ) ≤ 60 := by exact_mod_cast hn
    linarith
  have hbound : (2 : ℚ) ^ 23 ≤ 2 ^ 1024 - 2 ^ 970 := by
    have hlow : (2 : ℚ) ^ 23 ≤ 2 ^ 970 := pow_le_pow_right₀ one_le_two (by decide)
    rw [show 1024 = 54 + 970 from rfl, pow_add]
    generalize (2 : ℚ) ^ 970 = x at hlow
    linarith
  have hunits : |m| < 2 ^ 53 := by
    rw [hm, abs_div, abs_of_pos (show (0 : ℚ) < 2 ^ 30 by positivity), div_lt_iff₀ (by positivity), ← pow_add] at hlt
    exact_mod_cast hlt
  exact ⟨(rnd64_nearestEven hq (hlt.trans_le hbound)).1, rnd64_exact hq (hlt.trans_le hbound) hunits (by decide) hm⟩

/-- A window whose sum is the rounding of the exact sum of its entries holds that sum exactly. -/
theorem sumExact_of_rounded {w : Window} {q : Frac} (htemp : ∀ k < w.wlen.val, Temperate (w.live k).temp)
    (hq : 0 < q.den) (hsum : w.wsum = rnd64 q) (hval : q.toRat = w.liveSum) : w.SumExact := by
  have hn : w.wlen.val ≤ 60 := Nat.lt_succ_iff.mp w.wlen.isLt
  obtain ⟨hfin, heq⟩ := rnd64_of_sumOfEntries hq hn (hval ▸ sumOfEntries_liveSum htemp)
  exact ⟨htemp, hsum ▸ hfin, by rw [hsum, heq, hval]⟩

/-! ### The window -/

/-- The new entry is the last live one. -/
theorem live_pushSample_last {w : Window} (hw : w.IndexInv) (x : Sample) (h : w.wlen.val < 60) :
    (pushSample x w h).live w.wlen.val = x := by
  unfold Window.IndexInv at hw
  simp [Window.live, ← hw]

/-- A push leaves the other live entries alone: the head is the slot after theirs. -/
theorem live_pushSample_of_lt {w : Window} (hw : w.IndexInv) (x : Sample) (h : w.wlen.val < 60) {k : ℕ}
    (hk : k < w.wlen.val) : (pushSample x w h).live k = w.live k := by
  unfold Window.IndexInv at hw
  have hslot : w.whead.val ≠ (w.wtail.val + k) % 60 := by omega
  simp [Window.live, Vector.getElem_set_ne, hslot]

/-- A pop takes the oldest entry, number 0, and the others move up. -/
theorem live_popSample (w : Window) (k : ℕ) : (popSample w).live k = w.live (k + 1) := by
  have hslot : ((w.wtail.val + 1) % 60 + k) % 60 = (w.wtail.val + (k + 1)) % 60 := by omega
  simp only [Window.live, popSample_buf, popSample_wtail, nextSlot_val, hslot]

theorem live_zero (w : Window) : w.live 0 = w.buf[w.wtail] := by
  simp [Window.live, Nat.mod_eq_of_lt w.wtail.isLt]

theorem liveSum_pushSample {w : Window} (hw : w.IndexInv) (x : Sample) (h : w.wlen.val < 60) :
    (pushSample x w h).liveSum = w.liveSum + real32 (cdegF32 x.temp) := by
  have hkept : ∀ k ∈ List.range w.wlen.val,
      real32 (cdegF32 ((pushSample x w h).live k).temp) = real32 (cdegF32 (w.live k).temp) := fun k hk => by
    rw [live_pushSample_of_lt hw x h (List.mem_range.mp hk)]
  rw [Window.liveSum, pushSample_wlen_val, List.sum_range_succ, live_pushSample_last hw, List.map_congr_left hkept,
    ← Window.liveSum]

theorem liveSum_popSample {w : Window} (h : w.wlen.val ≠ 0) :
    w.liveSum = real32 (cdegF32 w.buf[w.wtail].temp) + (popSample w).liveSum := by
  obtain ⟨n, hn⟩ := Nat.exists_eq_succ_of_ne_zero h
  simp only [Window.liveSum, popSample_wlen_val, live_popSample, hn, List.sum_range_succ', live_zero, Nat.succ_sub_one]

theorem sumExact_pushSample {w : Window} (hidx : w.IndexInv) (hsum : w.SumExact) {x : Sample} (hx : Temperate x.temp)
    (h : w.wlen.val < 60) : (pushSample x w h).SumExact := by
  obtain ⟨htemp, -, hval⟩ := hsum
  refine sumExact_of_rounded (q := (value64 w.wsum).add (value32 (cdegF32 x.temp))) (fun k hk => ?_)
    (Nat.mul_pos (value64_den_pos _) (value32_den_pos _)) (pushSample_wsum x w h) ?_
  · rw [pushSample_wlen_val] at hk
    obtain hk | rfl : k < w.wlen.val ∨ k = w.wlen.val := by omega
    · rw [live_pushSample_of_lt hidx x h hk]; exact htemp k hk
    · rw [live_pushSample_last hidx]; exact hx
  · rw [Frac.toRat_add (value64_den_pos _) (value32_den_pos _), ← real64, ← real32, hval, liveSum_pushSample hidx]

theorem sumExact_popSample {w : Window} (hsum : w.SumExact) (h : w.wlen.val ≠ 0) : (popSample w).SumExact := by
  obtain ⟨htemp, -, hval⟩ := hsum
  refine sumExact_of_rounded (q := (value64 w.wsum).sub (value32 (cdegF32 w.buf[w.wtail].temp))) (fun k hk => ?_)
    (Nat.mul_pos (value64_den_pos _) (value32_den_pos _)) (popSample_wsum w) ?_
  · rw [popSample_wlen_val] at hk
    rw [live_popSample]
    exact htemp (k + 1) (by omega)
  · rw [Frac.toRat_sub (value64_den_pos _) (value32_den_pos _), ← real64, ← real32, hval, liveSum_popSample h,
      add_sub_cancel_left]

end Sys2Proof.Machine
end

section
/-! PROOF. `WSUM` is exactly the sum of the live entries after every step (10_state.md rule R25(d), 41_window.md rule R117). A
command pushes at most one sample, and after the push it touches neither the window's entries nor the sample registers, so the
sample it pushed is the one they hold at its end. -/

namespace Sys2Proof.Machine

open Sys2Proof

/-! ### The entries and the sum -/

/-- What `SumExact` and `IndexInv` speak of: the slots, the indices, the length and the sum. -/
def Window.entries (w : Window) : Vector Sample 60 × Fin 60 × Fin 60 × Fin 61 × DWord :=
  (w.buf, w.whead, w.wtail, w.wlen, w.wsum)

/-- The entries, and the sample a push would take. -/
def State.settled (s : State) : (Vector Sample 60 × Fin 60 × Fin 60 × Fin 61 × DWord) × Sample :=
  (s.win.entries, s.comp.sample)

theorem sumExact_congr {w v : Window} (h : v.entries = w.entries) : v.SumExact ↔ w.SumExact := by
  cases v
  cases w
  simp only [Window.entries, Prod.mk.injEq] at h
  obtain ⟨rfl, rfl, rfl, rfl, rfl⟩ := h
  exact Iff.rfl

theorem whead_congr {w v : Window} (h : v.entries = w.entries) : v.whead = w.whead :=
  congrArg (fun e => e.2.1) h

/-- From `s` to `t` the sum stays exact, provided that the sample registers of `t` hold a temperature within the bound if the
head moved. -/
def SumKept (s t : State) : Prop :=
  s.win.IndexInv → s.win.SumExact → (t.win.whead ≠ s.win.whead → Temperate t.comp.sample.temp) → t.win.SumExact

theorem sumKept_of_entries {s t : State} (h : t.win.entries = s.win.entries) : SumKept s t :=
  fun _ hsum _ => (sumExact_congr h).mpr hsum

theorem SumKept.of_settled {s t u : State} (h : SumKept s t) (hu : u.settled = t.settled) : SumKept s u := by
  obtain ⟨hentries, hsample⟩ := Prod.mk.inj hu
  intro hidx hsum hbound
  rw [sumExact_congr hentries]
  rw [whead_congr hentries, hsample] at hbound
  exact h hidx hsum hbound

/-! ### The frame of a command -/

/-- A composite leaves a part of the state alone when its sub-step and what follows it do. -/
theorem andThen_leaves {α : Type} (f : State → α) {s : State} {r : Result} {k : Status → State → Result}
    (hr : f r.2 = f s) (hk : ∀ st u, f (k st u).2 = f u) : f (andThen r k).2 = f s := by
  obtain ⟨st, u, rfl, h⟩ | ⟨e, u, rfl, h⟩ | ⟨u, rfl, h⟩ := andThen_cases r k
  · rw [h]; exact (hk st u).trans hr
  · rw [h]; exact hr
  · rw [h]; exact hr

/-- The sum stays exact through a composite whose later sub-steps leave the window settled. -/
theorem andThen_sumKept {s : State} {r : Result} {k : Status → State → Result} (hr : SumKept s r.2)
    (hk : ∀ st u, (k st u).2.settled = u.settled) : SumKept s (andThen r k).2 := by
  obtain ⟨st, u, rfl, h⟩ | ⟨e, u, rfl, h⟩ | ⟨u, rfl, h⟩ := andThen_cases r k
  · rw [h]; exact hr.of_settled (hk st u)
  · rw [h]; exact hr
  · rw [h]; exact hr

/-- The ending of a command touches the port and the environment alone. -/
theorem runExec_sumKept {op : BitVec 8} {body : State → Result} {s t : State} (hb : SumKept s (body s).2)
    (h : runExec op body s = .next t) : SumKept s t := by
  obtain ⟨-, rfl⟩ | ⟨-, st, u, hu, rfl⟩ | ⟨-, e, u, hu, rfl⟩ | ⟨-, u, hu, rfl⟩ := runExec_cases h
  · exact sumKept_of_entries rfl
  · rw [hu] at hb; exact hb.of_settled rfl
  · rw [hu] at hb; exact hb.of_settled rfl
  · rw [hu] at hb; exact hb.of_settled rfl

/-! ### MovingAverageWindow -/

theorem nextSlot_ne (i : Fin 60) : nextSlot i ≠ i := by
  intro h
  have hval : (i.val + 1) % 60 = i.val := congrArg Fin.val h
  omega

/-- A push moves the head, and the sample pushed stays in the sample registers. -/
theorem push_sumKept (s : State) (h : s.win.wlen.val < 60) :
    SumKept s { s with win := pushSample s.comp.sample s.win h } :=
  fun hidx hsum hbound => sumExact_pushSample hidx hsum (hbound (nextSlot_ne _)) h

theorem opWpush_sumKept (s : State) : SumKept s (opWpush s).2 := by
  by_cases h : s.win.wlen.val < 60
  · rw [opWpush_of_lt h]; exact push_sumKept s h
  · rw [opWpush_of_full (by omega)]; exact sumKept_of_entries rfl

theorem opWpop_sumKept (s : State) : SumKept s (opWpop s).2 := by
  by_cases h : s.win.wlen.val = 0
  · rw [opWpop_of_empty h]; exact sumKept_of_entries rfl
  · rw [opWpop_of_ne h]; exact fun _ hsum _ => sumExact_popSample hsum h

theorem opWavg_settled (s : State) : (opWavg s).2.settled = s.settled := by
  by_cases h : s.win.wlen.val = 0
  · rw [opWavg_of_empty h]; rfl
  · rw [opWavg_of_ne h]; rfl

/-- The eviction of WUPD takes from an exact sum, and does not move the head. -/
theorem opWupd_sumKept (s : State) : SumKept s (opWupd s).2 := by
  obtain ⟨hl, h⟩ | ⟨hl, h⟩ | ⟨-, h⟩ := opWupd_cases s
  · rw [h]; exact push_sumKept s (by omega)
  · rw [h]
    exact fun hidx hsum hbound => sumExact_popSample (push_sumKept s (by omega) hidx hsum hbound) (by simp)
  · rw [h]; exact sumKept_of_entries rfl

/-! ### SamplingScheduler -/

theorem opFstep_settled (s : State) : (opFstep s).2.settled = s.settled := by
  rw [opFstep_frame]
  rfl

theorem tickAfterSample_sumKept (s : State) : SumKept s (tickAfterSample s).2 :=
  andThen_sumKept (opWupd_sumKept s) fun _ u =>
  andThen_leaves State.settled (opWavg_settled u) fun _ u =>
  andThen_leaves State.settled (s := u) rfl fun _ u =>
  andThen_leaves State.settled (opFstep_settled u) fun _ _ => rfl

/-- RDALL, with which TICKSEQ begins, writes the sample registers and not the window. -/
theorem opTickseq_sumKept (s : State) : SumKept s (opTickseq s).2 := by
  obtain ⟨-, h⟩ | ⟨-, -, h⟩ | ⟨-, -, h⟩ | ⟨-, _, _, c, -, -, -, -, h⟩ := opTickseq_cases s
  · rw [h]; exact sumKept_of_entries rfl
  · rw [h]; exact sumKept_of_entries rfl
  · rw [h]; exact sumKept_of_entries rfl
  · rw [h]; exact tickAfterSample_sumKept { (readData s).2 with comp := c }

theorem opPoll_sumKept (s : State) : SumKept s (opPoll s).2 := by
  obtain ⟨-, h⟩ | ⟨-, -, h⟩ | ⟨-, -, h⟩ := opPoll_cases s
  · rw [h]; exact sumKept_of_entries rfl
  · rw [h]; exact sumKept_of_entries rfl
  · rw [h]; exact opTickseq_sumKept { s with port.lasttick := s.env.tick }

/-! ### The step -/

theorem Effect.entries_kept {s t : State} {k : EffectKind} (h : Effect s k t) (hk : k ≠ .window) :
    t.win.entries = s.win.entries := by
  cases h with
  | window => exact absurd rfl hk
  | _ => rfl

theorem instr_of_window_mem_footprint {i : Instr} (h : .window ∈ footprint i) :
    i = .wpush ∨ i = .wpop ∨ i = .wavg ∨ i = .wupd ∨ i = .poll ∨ i = .tickseq := by
  cases i with
  | wpush | wpop | wavg | wupd | poll | tickseq => simp
  | wr a d => rw [footprint] at h; split_ifs at h <;> simp at h
  | _ => simp [footprint, withEnding] at h

/-- Every instruction keeps the sum exact: one without the kind that writes the window leaves its entries as they were. -/
theorem exec_sumKept {i : Instr} {s t : State} (h : exec i s = .next t) : SumKept s t := by
  by_cases hwin : .window ∈ footprint i
  · obtain rfl | rfl | rfl | rfl | rfl | rfl := instr_of_window_mem_footprint hwin
    · exact runExec_sumKept (opWpush_sumKept s) h
    · exact runExec_sumKept (opWpop_sumKept s) h
    · exact runExec_sumKept ((sumKept_of_entries rfl).of_settled (opWavg_settled s)) h
    · exact runExec_sumKept (opWupd_sumKept s) h
    · exact runExec_sumKept (opPoll_sumKept s) h
    · exact runExec_sumKept (opTickseq_sumKept s) h
  · exact sumKept_of_entries <| (exec_effects h).leaves (·.win.entries) fun hk he =>
      he.entries_kept fun hw => hwin (hw ▸ hk)

theorem commandCycle_sumKept {w : CmdWord} {s t : State} (h : commandCycle w s = .next t) : SumKept s t := by
  cases hd : decode w with
  | ok i => exact exec_sumKept ((commandCycle_of_ok hd s).symm.trans h)
  | error e =>
    obtain rfl := Host.Outcome.next.inj ((commandCycle_of_error hd s).symm.trans h)
    exact sumKept_of_entries <| (illegalCommand_effects s).leaves (·.win.entries) fun hk he =>
      he.entries_kept fun hw => by simp [hw, withEnding] at hk

/-- Settles O40: a command keeps the sum exact, a reset event empties the window, and no other input writes it. -/
theorem sumStaysExact : Obligations.SumStaysExact := by
  intro s t hidx hsum h hbound
  obtain ⟨-, hn⟩ | ⟨inp, rest, hin, hn⟩ := nextInput_cases s
  · obtain rfl := Host.Outcome.next.inj (hn.symm.trans h)
    exact hsum
  replace h := hn.symm.trans h
  cases inp with
  | command w =>
    rw [acceptInput] at h
    split at h
    · obtain rfl := Host.Outcome.next.inj h
      exact hsum
    · exact commandCycle_sumKept h hidx hsum (hbound w rest hin)
  | reset =>
    obtain rfl := Host.Outcome.next.inj h
    exact sumExact_of_empty rfl rfl
  | edge | tick v | answerCal1 a | answerCal2 a | answerData a =>
    obtain rfl := Host.Outcome.next.inj h
    exact hsum

end Sys2Proof.Machine
end

section
/-! PROOF. The commands of the MovingAverageWindow (41_window.md rules R112 to R116): the whole next state of each in each of
its cases, and the extent of the window after any number of WUPD. -/

namespace Sys2Proof.Machine

open Sys2Proof Sys2Proof.Rules

/-! ### The frame of a command -/

theorem runExec_of_raise {s t : State} {op : BitVec 8} {body : State → Result} {e : Fatal} (hrun : s.port.halt = false)
    (hbody : body s = raise e t) : runExec op body s = .next (afterFatal t op e.status) := by
  rw [runExec_of_running hrun, hbody]
  rfl

/-! ### The commands -/

section Commands

variable {s : State}

theorem opWupd_of_lt (h : s.win.wlen.val < 59) :
    opWupd s = ret .ok { s with win := pushSample s.comp.sample s.win (by omega) } := by
  obtain ⟨_, h'⟩ | ⟨h59, -⟩ | ⟨h60, -⟩ := opWupd_cases s
  · exact h'
  · omega
  · omega

theorem opWupd_of_eq_59 (h : s.win.wlen.val = 59) :
    opWupd s = ret .ok { s with win := popSample (pushSample s.comp.sample s.win (by omega)) } := by
  obtain ⟨hlt, -⟩ | ⟨_, h'⟩ | ⟨h60, -⟩ := opWupd_cases s
  · omega
  · exact h'
  · omega

theorem opWupd_of_full (h : s.win.wlen.val = 60) : opWupd s = ret .full (emit .warning .warnFull 0 0 0 s) := by
  rw [opWupd, opWpush_of_full h, andThen_ret, if_pos rfl]

theorem exec_wpush_of_lt (hrun : s.port.halt = false) (h : s.win.wlen.val < 60) :
    exec .wpush s = .next (afterStatus { s with win := pushSample s.comp.sample s.win h } .ok) :=
  runExec_of_ret hrun (opWpush_of_lt h)

theorem exec_wpop_of_ne (hrun : s.port.halt = false) (h : s.win.wlen.val ≠ 0) :
    exec .wpop s = .next (afterStatus { s with win := popSample s.win } .ok) :=
  runExec_of_ret hrun (opWpop_of_ne h)

theorem exec_wupd_of_lt (hrun : s.port.halt = false) (h : s.win.wlen.val < 59) :
    exec .wupd s = .next (afterStatus { s with win := pushSample s.comp.sample s.win (by omega) } .ok) :=
  runExec_of_ret hrun (opWupd_of_lt h)

theorem exec_wupd_of_eq_59 (hrun : s.port.halt = false) (h : s.win.wlen.val = 59) :
    exec .wupd s = .next (afterStatus { s with win := popSample (pushSample s.comp.sample s.win (by omega)) } .ok) :=
  runExec_of_ret hrun (opWupd_of_eq_59 h)

end Commands

/-- Settles O34: below 60 the sample goes in at the head, at 60 the status is all that changes. -/
theorem wpushInsertsAtHead : Obligations.WpushInsertsAtHead := by
  refine ⟨by decide, fun s hrun => ⟨fun hlen => ?_, fun hlen => runExec_of_ret hrun (opWpush_of_full hlen)⟩⟩
  exact ⟨_, exec_wpush_of_lt hrun (by omega), rfl, rfl, rfl, rfl, rfl, rfl, rfl, rfl, rfl⟩

/-- Settles O35: above 0 the sample at the tail comes out and its slot stays, at 0 the error is taken. -/
theorem wpopRemovesAtTail : Obligations.WpopRemovesAtTail := by
  refine ⟨by decide, fun s hrun => ⟨fun hlen => ?_, fun hlen => runExec_of_raise hrun (opWpop_of_empty hlen)⟩⟩
  refine ⟨_, exec_wpop_of_ne hrun hlen, rfl, rfl, ?_, rfl, rfl, rfl, rfl, rfl, rfl⟩
  rw [popSample_wlen_val, Nat.sub_add_cancel (Nat.pos_of_ne_zero hlen)]

/-- Settles O36: the two cases of the length. -/
theorem wavgDividesOrSaysNoData : Obligations.WavgDividesOrSaysNoData :=
  ⟨by decide, fun _ hrun =>
    ⟨fun hlen => runExec_of_ret hrun (opWavg_of_empty hlen), fun hlen => runExec_of_ret hrun (opWavg_of_ne hlen)⟩⟩

/-- Settles O37: below 59 WUPD leaves the state WPUSH leaves; at 59 it pushes and pops under one response; at 60 it warns. -/
theorem wupdPushesThenEvicts : Obligations.WupdPushesThenEvicts := by
  refine ⟨by decide, fun s hrun => ⟨fun hlen => ?_, fun hlen => ?_, fun hlen => ?_⟩⟩
  · exact ⟨_, exec_wpush_of_lt hrun (by omega), exec_wupd_of_lt hrun hlen, rfl⟩
  · exact ⟨_, _, exec_wpush_of_lt hrun (by omega), exec_wpop_of_ne hrun (Nat.succ_ne_zero _), rfl,
      exec_wupd_of_eq_59 hrun hlen⟩
  · refine (runExec_of_ret hrun (opWupd_of_full hlen)).trans (congrArg _ ?_)
    simp [afterStatus, emit, put, logRecord, LogKind.code, Site.code]

/-! ### Many WUPD in a row (rule R116) -/

/-- The extent that `n` WUPD leave to a window that was empty, in a CORE that runs. -/
def SteadyExtent (n : ℕ) (s : State) : Prop :=
  s.port.halt = false ∧ s.win.wlen.val = min n 59 ∧ s.win.whead.val = n % 60 ∧
    s.win.wtail.val = if n ≤ 59 then 0 else (n - 59) % 60

theorem SameExtent.steadyExtent {n : ℕ} {s t : State} (h : SameExtent s t) (hs : SteadyExtent n s) :
    SteadyExtent n t := by
  obtain ⟨hlen, hhead, htail, hhalt⟩ := h
  unfold SteadyExtent
  rw [hlen, hhead, htail, hhalt]
  exact hs

/-- Up to 59 samples WUPD pushes; from then on it pushes and evicts, and the tail follows the head. -/
theorem wupd_steadyExtent {n : ℕ} {s : State} (h : SteadyExtent n s) :
    ∃ t, exec .wupd s = .next t ∧ t.port.last = .ok ∧ SteadyExtent (n + 1) t := by
  obtain ⟨hrun, hlen, hhead, htail⟩ := h
  obtain hn | hn := Nat.lt_or_ge n 59
  · rw [if_pos hn.le] at htail
    refine ⟨_, exec_wupd_of_lt hrun (by omega), rfl, hrun, ?_⟩
    simp only [afterStatus, pushSample_wlen_val, pushSample_whead, pushSample_wtail, nextSlot_val]
    rw [if_pos (by omega)]
    omega
  · have htail' : s.win.wtail.val = (n - 59) % 60 := by split at htail <;> omega
    refine ⟨_, exec_wupd_of_eq_59 hrun (by omega), rfl, hrun, ?_⟩
    simp only [afterStatus, popSample_wlen_val, popSample_whead, popSample_wtail, pushSample_wlen_val, pushSample_whead,
      pushSample_wtail, nextSlot_val]
    rw [if_neg (by omega)]
    omega

/-- Settles O59: the extent after `n` goes to the extent after `n + 1`. -/
theorem wupdAdvancesSteadyState : Obligations.WupdAdvancesSteadyState := by
  intro n s hrun hlen hhead htail
  obtain ⟨t, hexec, hlast, hhalt, hextent⟩ := wupd_steadyExtent ⟨hrun, hlen, hhead, htail⟩
  exact ⟨t, hexec, hlast, hhalt, hextent⟩

theorem wupdRun_succ {between : ℕ → State → State} {n : ℕ} {s t u : State} (ht : wupdRun between n s = some t)
    (hu : exec .wupd (between n t) = .next u) : wupdRun between (n + 1) s = some u := by
  simp [wupdRun, ht, hu]

/-- Settles O38, by induction on the number of WUPD. -/
theorem wupdOccupancyInSteadyState : Obligations.WupdOccupancyInSteadyState := by
  intro between hbetween s hrun hlen hhead htail n
  have hsteady : ∃ t, wupdRun between n s = some t ∧ (0 < n → t.port.last = .ok) ∧ SteadyExtent n t := by
    induction n with
    | zero => exact ⟨s, rfl, fun h => absurd h (lt_irrefl 0), hrun, hlen, hhead, htail⟩
    | succ n ih =>
      obtain ⟨t, ht, -, hsteady⟩ := ih
      obtain ⟨u, hu, hlast, hnext⟩ := wupd_steadyExtent ((hbetween n t).steadyExtent hsteady)
      exact ⟨u, wupdRun_succ ht hu, fun _ => hlast, hnext⟩
  obtain ⟨t, ht, hlast, hhalt, hlen', hhead', htail'⟩ := hsteady
  exact ⟨t, ht, hlen', hhead', htail', hlast, hhalt⟩

end Sys2Proof.Machine
end

section
/-! PROOF. The comparison with 24.0 (42_fsm.md rule R128): a rounding to nearest does not cross a number of the format, and
both 24 and 24 - 2^-7 are numbers of binary32; no quotient of the form t / 100 lies between them. -/

namespace Sys2Proof.Machine

open Sys2Proof

section Celsius

variable {t : Word}

/-- No number of binary32 is nearer to the exact temperature than its float form, for every value of `TEMP`. -/
theorem cdegF32_nearest_of_any (t : Word) {m : ℤ} (hm : |m| < 2 ^ 24) {e : ℕ} (he : e ≤ 149) :
    |real32 (cdegF32 t) - t.toInt / 100| ≤ |(m / 2 ^ e : ℚ) - t.toInt / 100| := by
  have ht : |t.toInt| ≤ 2 ^ 31 := abs_le.mpr ⟨BitVec.le_toInt t, (BitVec.toInt_lt (x := t)).le⟩
  have ht' : |(t.toInt : ℚ)| ≤ 2 ^ 31 := by exact_mod_cast ht
  have hlt : |(⟨t.toInt, Config.divT⟩ : Frac).toRat| < 2 ^ 128 - 2 ^ 103 := by
    rw [celsius_toRat, abs_div, abs_of_pos (show (0 : ℚ) < 100 by norm_num)]
    linarith
  rw [← celsius_toRat, cdegF32]
  exact rnd32_nearest (show 0 < Config.divT by decide) hlt hm he

/-- The float form of a temperature at or above a number of binary32 is at or above that number. -/
theorem le_real32_cdegF32 {m : ℤ} (hm : |m| < 2 ^ 24) {e : ℕ} (he : e ≤ 149) (h : (m / 2 ^ e : ℚ) ≤ t.toInt / 100) :
    (m / 2 ^ e : ℚ) ≤ real32 (cdegF32 t) := by
  have hnear := cdegF32_nearest_of_any t hm he
  rw [abs_of_nonpos (sub_nonpos.mpr h)] at hnear
  linarith [neg_le_of_abs_le hnear]

/-- The float form of a temperature at or below a number of binary32 is at or below that number. -/
theorem real32_cdegF32_le {m : ℤ} (hm : |m| < 2 ^ 24) {e : ℕ} (he : e ≤ 149) (h : (t.toInt / 100 : ℚ) ≤ m / 2 ^ e) :
    real32 (cdegF32 t) ≤ (m / 2 ^ e : ℚ) := by
  have hnear := cdegF32_nearest_of_any t hm he
  rw [abs_of_nonneg (sub_nonneg.mpr h)] at hnear
  linarith [le_of_abs_le hnear]

/-- From 2400 on the float form is at least 24; up to 2399 it is at most 3071 / 2^7, which is below 24. -/
theorem threshold_le_real32_iff (t : Word) : (24 : ℚ) ≤ real32 (cdegF32 t) ↔ 2400 ≤ t.toInt := by
  constructor
  · intro h
    by_contra hcold
    have hq : (t.toInt : ℚ) ≤ 2399 := by exact_mod_cast (show t.toInt ≤ 2399 by omega)
    have hbelow := real32_cdegF32_le (t := t) (m := 3071) (by decide) (show 7 ≤ 149 by decide) (by push_cast; linarith)
    push_cast at hbelow
    linarith
  · intro h
    have hq : (2400 : ℚ) ≤ t.toInt := by exact_mod_cast h
    have habove := le_real32_cdegF32 (t := t) (m := 24) (by decide) (Nat.zero_le _) (by push_cast; linarith)
    push_cast at habove
    linarith

end Celsius

/-- The flag of the machine is the integer comparison. -/
theorem hot_iff (t : Word) : hot t = true ↔ 2400 ≤ t.toInt := decide_eq_true_iff

theorem hot_eq_false_iff (t : Word) : hot t = false ↔ ¬2400 ≤ t.toInt := decide_eq_false_iff_not

/-- Settles O33: the rounding keeps the order with 24, and the machine compares the whole numbers. -/
theorem thresholdIsTheIntegerTest : Obligations.ThresholdIsTheIntegerTest := fun t =>
  ⟨threshold_le_real32_iff t, hot_iff t⟩

end Sys2Proof.Machine
end

section
/-! PROOF. The commands of the ControlFSM and the edge flag (42_fsm.md rules R126 to R136): the next state of FSTEP is the
one of the rules' table, with the indicator of rule R134 as one function of its registers before. -/

namespace Sys2Proof.Machine

open Sys2Proof Sys2Proof.Rules

/-! ### The edge flag -/

/-- Settles O8: the step is the edge-set event, whatever the halt and the wait. -/
theorem edgeEventSetsEdge : Obligations.EdgeEventSetsEdge := by
  intro s rest h
  rw [step, nextInput, h]
  rfl

theorem exec_econs {s : State} (hrun : s.port.halt = false) :
    exec .econs s = .next (afterStatus { s with ctl.sw := s.ctl.edge, ctl.edge := false } .ok) :=
  runExec_of_ret hrun rfl

/-- Settles O45: the second ECONS reads the flag that the first one cleared. -/
theorem econsReadsAndClears : Obligations.EconsReadsAndClears :=
  ⟨by decide, fun _ hrun => ⟨exec_econs hrun, _, _, exec_econs hrun, exec_econs hrun, rfl, rfl⟩⟩

/-! ### The indicator latch (rule R134) -/

section Indicator

variable {cfg : Config.Params} {cur next : FsmState} {lv cnt : Byte}

theorem indicator_of_none (hhas : cfg.hasIndicator = false) : indicator cfg cur next lv cnt = (lv, cnt, []) :=
  if_pos hhas

/-- A change of state enters the level of the new one. -/
theorem indicator_of_change (hhas : cfg.hasIndicator = true) (h : next ≠ cur) :
    indicator cfg cur next lv cnt = (bright cfg next, 0, [.setLevel (bright cfg next)]) := by
  cases next with
  | normal | emergency | user => simp [indicator, hhas, h, bright]

/-- In a state that lasts, the end of the half-period decides. -/
theorem indicator_of_stay (hhas : cfg.hasIndicator = true) (hcur : cur ≠ .user) :
    indicator cfg cur cur lv cnt =
      if half cfg cur ≤ cnt + 1 then
        if lv = 0 then (bright cfg cur, 0, [.setLevel (bright cfg cur)]) else (0, 0, [.setLevel 0])
      else (lv, cnt + 1, []) := by
  cases cur with
  | user => exact absurd rfl hcur
  | normal | emergency => simp [indicator, hhas, half, bright, BitVec.le_def]

end Indicator

/-- The latch and the trace take what the indicator function of the rules says. -/
def withIndicator (s : State) (ind : Byte × Byte × List Event) : State :=
  { s with ctl.level := ind.1, ctl.blinkcnt := ind.2.1, env.trace := s.env.trace ++ ind.2.2 }

theorem withIndicator_unchanged (s : State) : withIndicator s (s.ctl.level, s.ctl.blinkcnt, []) = s := by
  simp [withIndicator]

/-- The update of the machine is the rule's in every step but one from User to User, which is none (rule R136). -/
theorem indicatorUpdate_eq {cur next : FsmState} {s : State} (hhas : s.cfg.hasIndicator = true)
    (huser : cur = .user → next ≠ .user) :
    indicatorUpdate cur next s = withIndicator s (indicator s.cfg cur next s.ctl.level s.ctl.blinkcnt) := by
  by_cases hstay : next = cur
  · subst hstay
    have hcur : next ≠ .user := fun h => huser h h
    rw [indicatorUpdate, if_pos rfl, indicator_of_stay hhas hcur]
    by_cases hhalf : half s.cfg next ≤ s.ctl.blinkcnt + 1
    · simp only [if_pos hhalf]
      split_ifs <;> rfl
    · simp only [if_neg hhalf]
      simp [withIndicator]
  · rw [indicatorUpdate, if_neg hstay, indicator_of_change hhas hstay]
    rfl

/-! ### FSTEP (rules R126 to R129) -/

section Fstep

variable {s : State} {cur next : FsmState} {log : List LogRecord}

/-- FSTEP goes where the table says, logs, uses up the edge operand and updates the latch. -/
theorem exec_fstep_of_log (hrun : s.port.halt = false) (hfsm : s.ctl.fsm = cur)
    (hnext : fsmNext cur s.ctl.sw (hot s.comp.sample.temp) = next)
    (hlog : fsmLog cur next s.comp.sample s.win.avgv s.win.avg = log.map Event.emit) :
    exec .fstep s = .next (afterFstep s next log) := by
  subst hfsm
  have hmove : fsmTransition s = putAll (log.map Event.emit) { s with ctl.fsm := next, ctl.sw := false } := by
    simp only [fsmTransition, hnext, hlog]
  have huser : s.ctl.fsm = .user → next ≠ .user := fun h => by
    rw [← hnext, h]
    exact fsmNext_user_ne_user _ _
  have hbody : opFstep s =
      ret .ok (withIndicator (fsmTransition s) (indicator s.cfg s.ctl.fsm next s.ctl.level s.ctl.blinkcnt)) := by
    cases hhas : s.cfg.hasIndicator with
    | true =>
      rw [opFstep, if_pos hhas, hmove]
      exact congrArg _ (indicatorUpdate_eq hhas huser)
    | false =>
      rw [opFstep, hhas, if_neg Bool.false_ne_true, indicator_of_none hhas]
      exact congrArg _ (withIndicator_unchanged (fsmTransition s)).symm
  refine (runExec_of_ret hrun hbody).trans ?_
  simp [hmove, afterFstep, afterStatus, withIndicator]

/-- A change of state from Normal or Emergency logs the transition alone. -/
theorem exec_fstep_of_change (hrun : s.port.halt = false) (hfsm : s.ctl.fsm = cur) (hcur : cur ≠ .user)
    (hnext : fsmNext cur s.ctl.sw (hot s.comp.sample.temp) = next) (hne : next ≠ cur) :
    exec .fstep s = .next (afterFstep s next [⟨2, 2, cur.code.setWidth 32, next.code.setWidth 32, 0⟩]) := by
  refine exec_fstep_of_log hrun hfsm hnext ?_
  cases cur with
  | user => exact absurd rfl hcur
  | normal | emergency => exact if_neg hne

/-- From User the average is logged before the transition, and the edge operand decides nothing. -/
theorem exec_fstep_of_user (hrun : s.port.halt = false) (hfsm : s.ctl.fsm = .user)
    (hnext : (if hot s.comp.sample.temp then .emergency else .normal) = next) :
    exec .fstep s = .next (afterFstep s next
      [⟨3, 3, flagWord s.win.avgv, s.win.avg, 0⟩, ⟨2, 2, 2, next.code.setWidth 32, 0⟩]) :=
  exec_fstep_of_log hrun hfsm hnext rfl

end Fstep

/-- Settles O42: the rows are four changes of state from Normal or Emergency, two stays and the two ways out of User. -/
theorem fstepFollowsTheTable : Obligations.FstepFollowsTheTable := by
  refine ⟨by decide, fun s hrun => ?_⟩
  have hhot := (hot_iff s.comp.sample.temp).mpr
  have hcool := (hot_eq_false_iff s.comp.sample.temp).mpr
  refine ⟨fun hfsm hsw => ?_, fun hfsm hsw hwarm => ?_, fun hfsm hsw hcold => ?_, fun hfsm hsw => ?_,
    fun hfsm hsw hcold => ?_, fun hfsm hsw hwarm => ?_, fun hfsm hwarm => ?_, fun hfsm hcold => ?_⟩
  · exact exec_fstep_of_change hrun hfsm (by decide) (by rw [hsw]; rfl) (by decide)
  · exact exec_fstep_of_change hrun hfsm (by decide) (by rw [hsw, hhot hwarm]; rfl) (by decide)
  · exact exec_fstep_of_log hrun hfsm (by rw [hsw, hcool hcold]; rfl) rfl
  · exact exec_fstep_of_change hrun hfsm (by decide) (by rw [hsw]; rfl) (by decide)
  · exact exec_fstep_of_change hrun hfsm (by decide) (by rw [hsw, hcool hcold]; rfl) (by decide)
  · exact exec_fstep_of_log hrun hfsm (by rw [hsw, hhot hwarm]; rfl) rfl
  · exact exec_fstep_of_user hrun hfsm (by rw [hhot hwarm]; rfl)
  · exact exec_fstep_of_user hrun hfsm (by rw [hcool hcold]; rfl)

/-- Settles O44: the temperature alone decides where a step from User goes, and it uses the operand up. -/
theorem userStateLastsOneStep : Obligations.UserStateLastsOneStep := by
  intro s hrun hfsm
  have hleft : (if hot s.comp.sample.temp then FsmState.emergency else .normal) ≠ .user := by
    split <;> decide
  exact ⟨_, exec_fstep_of_user hrun hfsm rfl, hleft,
    fun b => exec_fstep_of_user (s := { s with ctl.sw := b }) hrun hfsm rfl⟩

end Sys2Proof.Machine
end

section
/-! PROOF. The indicator never feeds back (42_fsm.md rule R135). The machine that drops rule R134 altogether is compared with the
machine as it is: every instruction but a read of `IND` takes the one to the one, so two machines that differ in the indicator
alone leave states that differ in it alone. -/

namespace Sys2Proof.Machine

open Sys2Proof

/-! ### The machine without an indicator -/

/-- The state of the machine without an indicator: its parameters and registers are blank, and no level has left it. -/
def State.dark (s : State) : State :=
  { s with
    cfg := { s.cfg with hasIndicator := false, brightNormal := 0, brightEmergency := 0, brightUser := 0,
                        halfNormal := 0, halfEmergency := 0 }
    ctl.level := 0
    ctl.blinkcnt := 0
    env.trace := s.env.trace.filter fun e => !e.isLevel }

/-- The ending of an operation and the state it leaves without an indicator. -/
def dark (r : Result) : Result := (r.1, r.2.dark)

/-- The operation does the same without an indicator. -/
def Blind (body : State → Result) : Prop := ∀ s, body s.dark = dark (body s)

theorem dark_ret (st : Status) (s : State) : dark (ret st s) = ret st s.dark := rfl

/-! ### What leaves the CORE -/

/-- Of the events only the levels are missing. -/
theorem putAll_dark {es : List Event} (h : ∀ e ∈ es, e.isLevel = false) (s : State) :
    putAll es s.dark = (putAll es s).dark := by
  have hall : es.filter (fun e => !e.isLevel) = es := List.filter_eq_self.mpr fun e he => by simp [h e he]
  simp [putAll, State.dark, List.filter_append, hall]

theorem put_dark {e : Event} (h : e.isLevel = false) (s : State) : put e s.dark = (put e s).dark :=
  putAll_dark (es := [e]) (by simpa using h) s

theorem put_setLevel_dark (v : Byte) (s : State) : (put (.setLevel v) s).dark = s.dark := by
  simp [put, State.dark, Event.isLevel]

theorem respond_dark (st : Status) (d : Word) (s : State) : respond st d s.dark = (respond st d s).dark := put_dark rfl s

theorem emit_dark (k : LogKind) (c : Site) (f g h : Word) (s : State) : emit k c f g h s.dark = (emit k c f g h s).dark :=
  put_dark rfl s

theorem readCal1_dark (s : State) : readCal1 s.dark = ((readCal1 s).1, (readCal1 s).2.dark) :=
  Prod.ext rfl (put_dark rfl { s with env.cal1 := s.env.cal1.tail })

theorem readCal2_dark (s : State) : readCal2 s.dark = ((readCal2 s).1, (readCal2 s).2.dark) :=
  Prod.ext rfl (put_dark rfl { s with env.cal2 := s.env.cal2.tail })

theorem readData_dark (s : State) : readData s.dark = ((readData s).1, (readData s).2.dark) :=
  Prod.ext rfl (put_dark rfl { s with env.data := s.env.data.tail })

/-! ### The frame of a command -/

theorem andThen_dark {r : Result} {k : Status → State → Result} (hk : ∀ st, Blind (k st)) :
    andThen (dark r) k = dark (andThen r k) := by
  obtain ⟨st, u, rfl, h⟩ | ⟨e, u, rfl, h⟩ | ⟨u, rfl, h⟩ := andThen_cases r k
  · rw [h]; exact hk st u
  · rw [h]; rfl
  · rw [h]; rfl

/-- A composite is blind when its sub-step and what follows it are. -/
theorem Blind.andThen {body : State → Result} {k : Status → State → Result} (hb : Blind body) (hk : ∀ st, Blind (k st)) :
    Blind fun s => andThen (body s) k := by
  intro s
  beta_reduce
  rw [hb s]
  exact andThen_dark hk

theorem blind_ret (st : Status) : Blind (ret st) := fun _ => rfl

theorem finish_dark (op : BitVec 8) (r : Result) : finish op (dark r) = (finish op r).dark := by
  obtain ⟨st, u, rfl⟩ | ⟨e, u, rfl⟩ | ⟨u, rfl⟩ := result_cases r
  · exact respond_dark st 0 { u with port.last := st }
  · exact respond_dark e.status 0 (takeFatal op e u)
  · rfl

/-- A command does the same without an indicator when its pseudocode does. -/
theorem runExec_dark {op : BitVec 8} {body : State → Result} {s t : State} (hb : Blind body)
    (h : runExec op body s = .next t) : runExec op body s.dark = .next t.dark := by
  cases hhalt : s.port.halt with
  | true =>
    rw [runExec_of_halt hhalt, Host.Outcome.next.injEq] at h
    rw [runExec_of_halt (s := s.dark) hhalt, ← h]
    exact congrArg _ (respond_dark s.port.causeCode 0 s)
  | false =>
    rw [runExec_of_running hhalt, Host.Outcome.next.injEq] at h
    rw [runExec_of_running (s := s.dark) hhalt, hb s, finish_dark, h]

/-! ### CompensationEngine -/

theorem Blind.needCalibration {k : State → Result} (hk : Blind k) : Blind fun s => needCalibration s k := by
  intro s
  beta_reduce
  cases h : s.comp.calv with
  | true => rw [needCalibration_of_calv h, needCalibration_of_calv (s := s.dark) h]; exact hk s
  | false => rw [needCalibration_of_not_calv h, needCalibration_of_not_calv (s := s.dark) h]; rfl

theorem opLdcal_blind : Blind opLdcal := fun s => by
  by_cases h : s.comp.cb1len = 26 ∧ s.comp.cb2len = 7
  · rw [opLdcal_of_lengths h, opLdcal_of_lengths (s := s.dark) h]; rfl
  · have h' : s.comp.cb1len ≠ 26 ∨ s.comp.cb2len ≠ 7 := not_and_or.mp h
    rw [opLdcal_of_wrong_length h', opLdcal_of_wrong_length (s := s.dark) h']; rfl

/-- What rewrites the compensation registers from themselves does not see the indicator. -/
theorem blind_of_compensation (f : Compensation → Compensation) : Blind fun s => ret .ok { s with comp := f s.comp } :=
  fun _ => rfl

theorem opUnpack_blind : Blind opUnpack := blind_of_compensation .unpacked

theorem opCompt_blind : Blind opCompt := (blind_of_compensation .withTemperature).needCalibration

theorem opCompp_blind : Blind opCompp := (blind_of_compensation .withPressure).needCalibration

theorem opComph_blind : Blind opComph := (blind_of_compensation .withHumidity).needCalibration

theorem compensateBlock_blind (bytes : Vector Byte 8) : Blind (compensateBlock bytes) := fun s =>
  (opUnpack_blind.andThen fun _ => opCompt_blind.andThen fun _ => opCompp_blind.andThen fun _ =>
    opComph_blind.andThen fun _ => blind_ret .ok) { s with comp.dbuf := bytes }

theorem opRdall_blind : Blind opRdall := Blind.needCalibration fun s => by
  rw [readData_dark]
  obtain ⟨a, u⟩ := readData s
  cases a with
  | none => rfl
  | some a =>
    cases a with
    | err => rfl
    | ok bytes => exact compensateBlock_blind bytes u

/-! ### MovingAverageWindow -/

theorem opWpush_blind : Blind opWpush := fun s => by
  by_cases h : s.win.wlen.val < 60
  · rw [opWpush_of_lt h, opWpush_of_lt (s := s.dark) h]; rfl
  · have hfull : s.win.wlen.val = 60 := by omega
    rw [opWpush_of_full hfull, opWpush_of_full (s := s.dark) hfull]; rfl

theorem opWpop_blind : Blind opWpop := fun s => by
  by_cases h : s.win.wlen.val = 0
  · rw [opWpop_of_empty h, opWpop_of_empty (s := s.dark) h]; rfl
  · rw [opWpop_of_ne h, opWpop_of_ne (s := s.dark) h]; rfl

theorem opWavg_blind : Blind opWavg := fun s => by
  by_cases h : s.win.wlen.val = 0
  · rw [opWavg_of_empty h, opWavg_of_empty (s := s.dark) h]; rfl
  · rw [opWavg_of_ne h, opWavg_of_ne (s := s.dark) h]; rfl

theorem opWupd_blind : Blind opWupd := opWpush_blind.andThen fun st s => by
  by_cases hfull : st = .full
  · rw [if_pos hfull, if_pos hfull, emit_dark]; rfl
  · rw [if_neg hfull, if_neg hfull]
    by_cases hlen : s.win.wlen.val = 60
    · rw [if_pos hlen, if_pos (show s.dark.win.wlen.val = 60 from hlen)]
      exact opWpop_blind.andThen (fun _ => blind_ret .ok) s
    · rw [if_neg hlen, if_neg (show ¬s.dark.win.wlen.val = 60 from hlen)]; rfl

/-! ### ControlFSM -/

/-- FSTEP logs no level. -/
theorem fsmLog_isLevel (cur next : FsmState) (x : Sample) (avgv : Bool) (avg : Word) :
    ∀ e ∈ fsmLog cur next x avgv avg, e.isLevel = false := by
  cases cur with
  | user => simp [fsmLog, transitionEvent, Event.isLevel]
  | normal | emergency => unfold fsmLog; split_ifs <;> simp [transitionEvent, Event.isLevel]

theorem fsmTransition_dark (s : State) : fsmTransition s.dark = (fsmTransition s).dark :=
  putAll_dark (fsmLog_isLevel _ _ _ _ _)
    { s with ctl.fsm := fsmNext s.ctl.fsm s.ctl.sw (hot s.comp.sample.temp), ctl.sw := false }

/-- Without an indicator its update is nothing at all. -/
theorem indicatorUpdate_dark (cur next : FsmState) (s : State) : (indicatorUpdate cur next s).dark = s.dark := by
  obtain ⟨-, h⟩ | ⟨-, -, v, -, h⟩ | ⟨-, -, h⟩ := indicatorUpdate_cases cur next s
  · rw [h]; exact put_setLevel_dark _ _
  · rw [h]; exact put_setLevel_dark _ _
  · rw [h]; rfl

theorem opFstep_blind : Blind opFstep := fun s => by
  have hdark : opFstep s.dark = ret .ok (fsmTransition s).dark := congrArg (ret .ok) (fsmTransition_dark s)
  rw [hdark, opFstep, dark_ret]
  split_ifs
  · rw [indicatorUpdate_dark]
  · rfl

theorem opEcons_blind : Blind opEcons := fun _ => rfl

/-! ### SamplingScheduler -/

theorem tickAfterSample_blind : Blind tickAfterSample :=
  opWupd_blind.andThen fun st => opWavg_blind.andThen fun _ => opEcons_blind.andThen fun _ =>
    opFstep_blind.andThen fun _ => blind_ret st

theorem opTickseq_blind : Blind opTickseq := opRdall_blind.andThen fun st s => by
  by_cases h : st = .transportError
  · rw [if_pos h, if_pos h, emit_dark]; rfl
  · rw [if_neg h, if_neg h]; exact tickAfterSample_blind s

theorem opPoll_blind : Blind opPoll := Blind.needCalibration fun s => by
  by_cases h : s.env.tick = s.port.lasttick
  · rw [if_pos h, if_pos (show s.dark.env.tick = s.dark.port.lasttick from h)]; rfl
  · rw [if_neg h, if_neg (show ¬s.dark.env.tick = s.dark.port.lasttick from h)]
    exact opTickseq_blind { s with port.lasttick := s.env.tick }

theorem initSecondBlock_blind : Blind initSecondBlock := fun s => by
  rw [initSecondBlock, initSecondBlock, readCal2_dark]
  obtain ⟨a, u⟩ := readCal2 s
  cases a with
  | none => rfl
  | some a =>
    cases a with
    | err => rfl
    | ok bytes => exact opLdcal_blind.andThen (fun _ => blind_ret .ok) { u with comp.cb2 := bytes, comp.cb2len := 7 }

theorem opInit_blind : Blind opInit := fun s => by
  rw [opInit, opInit, readCal1_dark]
  obtain ⟨a, u⟩ := readCal1 s
  cases a with
  | none => rfl
  | some a =>
    cases a with
    | err => rfl
    | ok bytes => exact initSecondBlock_blind { u with comp.cb1 := bytes, comp.cb1len := 26 }

/-! ### The host port -/

/-- No register but `IND` shows the indicator. -/
theorem readReg_dark (s : State) {r : Reg} (hr : r ≠ .ind) : readReg s.dark r = readReg s r := by
  cases r with
  | ind => exact absurd rfl hr
  | _ => rfl

theorem readAddr_dark (s : State) {a : Addr} (ha : a ≠ 0x03) : readAddr s.dark a = readAddr s a := by
  unfold readAddr
  cases h : regAt a with
  | none => rfl
  | some r =>
    refine readReg_dark s fun hr => ha ?_
    subst hr
    exact (addr_of_regAt h).symm

theorem writeReg_dark (s : State) (d : Word) (r : Reg) : writeReg s.dark d r = (writeReg s d r).dark := by
  cases r <;> rfl

theorem writeAddr_dark (s : State) (a : Addr) (d : Word) : writeAddr s.dark a d = (writeAddr s a d).dark := by
  unfold writeAddr
  cases regAt a with
  | none => rfl
  | some r => exact writeReg_dark s d r

theorem execWr_dark {a : Addr} {d : Word} {s t : State} (h : execWr a d s = .next t) :
    execWr a d s.dark = .next t.dark := by
  obtain rfl := Host.Outcome.next.inj h
  refine congrArg Host.Outcome.next ?_
  cases hhalt : s.port.halt with
  | true =>
    rw [if_pos rfl, if_pos (show s.dark.port.halt = true from hhalt)]
    exact respond_dark s.port.causeCode 0 s
  | false =>
    rw [if_neg Bool.false_ne_true, if_neg (show ¬s.dark.port.halt = true by simp [State.dark, hhalt]), writeAddr_dark,
      respond_dark]

/-! ### The statement -/

/-- Every instruction but a read of `IND` does the same without an indicator. -/
theorem exec_dark {i : Instr} {s t : State} (hi : i ≠ .rd 0x03) (h : exec i s = .next t) :
    exec i s.dark = .next t.dark := by
  cases i with
  | nop => exact runExec_dark (blind_ret .ok) h
  | ldcal => exact runExec_dark opLdcal_blind h
  | unpack => exact runExec_dark opUnpack_blind h
  | compt => exact runExec_dark opCompt_blind h
  | compp => exact runExec_dark opCompp_blind h
  | comph => exact runExec_dark opComph_blind h
  | rdall => exact runExec_dark opRdall_blind h
  | wpush => exact runExec_dark opWpush_blind h
  | wpop => exact runExec_dark opWpop_blind h
  | wavg => exact runExec_dark opWavg_blind h
  | wupd => exact runExec_dark opWupd_blind h
  | fstep => exact runExec_dark opFstep_blind h
  | econs => exact runExec_dark opEcons_blind h
  | init => exact runExec_dark opInit_blind h
  | poll => exact runExec_dark opPoll_blind h
  | tickseq => exact runExec_dark opTickseq_blind h
  | wr a d => exact execWr_dark h
  | rd a =>
    obtain rfl := Host.Outcome.next.inj h
    have ha : a ≠ 0x03 := fun ha => hi (ha ▸ rfl)
    refine congrArg Host.Outcome.next ?_
    rw [readAddr_dark s ha]
    exact respond_dark .ok _ s

/-- Settles O43: without their indicators the two machines are one, so the states they leave are one without it. -/
theorem indicatorNeverFeedsBack : Obligations.IndicatorNeverFeedsBack := by
  intro i s t u has bn be bu hn he lv cnt hi ht hu
  have hs := exec_dark hi ht
  have hsame : u.dark = t.dark := Host.Outcome.next.inj ((exec_dark hi hu).symm.trans hs)
  exact ⟨congrArg (·.comp) hsame, congrArg (·.win) hsame, congrArg (·.port) hsame, congrArg (·.ctl.fsm) hsame,
    congrArg (·.ctl.sw) hsame, congrArg (·.ctl.edge) hsame, congrArg (·.env.trace) hsame⟩

end Sys2Proof.Machine
end

section
/-! PROOF. The commands of the SamplingScheduler (43_scheduler.md rules R141 to R145): the whole next state of INIT in each of its
answered cases, what TICKSEQ does after a failed read and on a full window, and POLL as TICKSEQ on a new tick value. -/

namespace Sys2Proof.Machine

open Sys2Proof Sys2Proof.Rules

/-! ### INIT (rule R141) -/

section Init

variable {s : State}

theorem opInit_of_ok {b1 : Vector Byte 26} {r1 : List (Answer 26)} (h : s.env.cal1 = .ok b1 :: r1) :
    opInit s = initSecondBlock { (readCal1 s).2 with comp.cb1 := b1, comp.cb1len := 26 } := by
  rw [opInit, readCal1_of_cons h]

theorem opInit_of_err {r1 : List (Answer 26)} (h : s.env.cal1 = .err :: r1) :
    opInit s = raise .calibrationError (readCal1 s).2 := by
  rw [opInit, readCal1_of_cons h]

theorem initSecondBlock_of_ok {b2 : Vector Byte 7} {r2 : List (Answer 7)} (hlen : s.comp.cb1len = 26)
    (h : s.env.cal2 = .ok b2 :: r2) :
    initSecondBlock s = ret .ok { (readCal2 s).2 with
      comp.cb2 := b2
      comp.cb2len := 7
      comp.coef := parseCalibration s.cfg.h45SignedMsb s.comp.cb1 b2
      comp.calv := true } := by
  rw [initSecondBlock, readCal2_of_cons h]
  exact congrArg (fun r => andThen r fun _ u => ret .ok u) (opLdcal_of_lengths (by exact ⟨hlen, rfl⟩))

theorem initSecondBlock_of_err {r2 : List (Answer 7)} (h : s.env.cal2 = .err :: r2) :
    initSecondBlock s = raise .calibrationError (readCal2 s).2 := by
  rw [initSecondBlock, readCal2_of_cons h]

/-- The environment after INIT took one answer to each of its two reads. -/
theorem env_after_both_reads {a1 : Answer 26} {a2 : Answer 7} {r1 : List (Answer 26)} {r2 : List (Answer 7)}
    (h1 : s.env.cal1 = a1 :: r1) (h2 : s.env.cal2 = a2 :: r2) (c : Compensation) :
    (readCal2 { (readCal1 s).2 with comp := c }).2.env = { s.env with
      cal1 := r1
      cal2 := r2
      trace := s.env.trace ++ [.xportRead s.cfg.cal1Addr 26, .xportRead s.cfg.cal2Addr 7] } := by
  simp [readCal1, readCal2, put, h1, h2]

end Init

/-- Settles O50: each read takes the first of the transport's answers, and a failed one ends the operation where it stands. -/
theorem initReadsAndParses : Obligations.InitReadsAndParses := by
  refine ⟨by decide, fun s hrun => ⟨fun b1 b2 r1 r2 h1 h2 => ?_, fun r1 h1 => ?_, fun b1 r1 r2 h1 h2 => ?_⟩⟩
  · have hbody := (opInit_of_ok h1).trans (initSecondBlock_of_ok rfl h2)
    refine ⟨_, parseCalibration_parsed s.cfg.h45SignedMsb b1 b2, ?_⟩
    rw [← env_after_both_reads h1 h2 { s.comp with cb1 := b1, cb1len := 26 }]
    exact runExec_of_ret hrun hbody
  · refine (runExec_of_raise hrun (opInit_of_err h1)).trans (congrArg _ ?_)
    simp [afterFatal, readCal1, put, h1, Fatal.status]
  · rw [← env_after_both_reads h1 h2 { s.comp with cb1 := b1, cb1len := 26 }]
    exact runExec_of_raise hrun ((opInit_of_ok h1).trans (initSecondBlock_of_err h2))

/-! ### TICKSEQ (rules R143 to R145) -/

section Tick

variable {s : State}

theorem opTickseq_of_err {rest : List (Answer 8)} (hcalv : s.comp.calv = true) (hdata : s.env.data = .err :: rest) :
    opTickseq s = ret .transportError (emit .warning .warnXport 0 0 0 (readData s).2) := by
  rw [opTickseq, opRdall_of_err hcalv hdata, andThen_ret, if_pos rfl]

theorem opTickseq_of_ok {bytes : Vector Byte 8} {rest : List (Answer 8)} (hcalv : s.comp.calv = true)
    (hdata : s.env.data = .ok bytes :: rest) :
    opTickseq s = tickAfterSample { (readData s).2 with comp := s.comp.compensated bytes } := by
  rw [opTickseq, opRdall_of_ok hcalv hdata, andThen_ret, if_neg (by decide)]

/-- On a full window the steps after a good read skip the buffering alone. -/
theorem tickAfterSample_of_full (hfull : s.win.wlen.val = 60) :
    ∃ (lv cnt : Byte) (es : List Event), tickAfterSample s = ret .full { s with
      win := { s.win with avg := sumDiv s.win.wsum 60, avgv := true }
      ctl := {
        fsm := fsmNext s.ctl.fsm s.ctl.edge (hot s.comp.sample.temp), sw := false, edge := false
        level := lv, blinkcnt := cnt }
      env.trace := s.env.trace ++ [.emit ⟨1, 4, 0, 0, 0⟩] ++ es } := by
  have hne : (emit .warning .warnFull 0 0 0 s).win.wlen.val ≠ 0 := by simp [hfull]
  rw [tickAfterSample, opWupd_of_full hfull, andThen_ret, opWavg_of_ne hne, andThen_ret, opEcons, andThen_ret]
  obtain ⟨lv, cnt, es, h⟩ := opFstep_spec _
  rw [h, andThen_ret]
  refine ⟨lv, cnt, es, ?_⟩
  simp only [emit_win, hfull]
  rfl

/-- With a calibration TICKSEQ takes no fatal error: it returns, or it waits for ever. -/
theorem opTickseq_of_calv (hcalv : s.comp.calv = true) :
    (∃ st u, opTickseq s = ret st u) ∨ ∃ u, opTickseq s = stall u := by
  obtain ⟨h, -⟩ | ⟨-, -, h⟩ | ⟨-, -, h⟩ | ⟨-, _, _, c, -, -, -, -, h⟩ := opTickseq_cases s
  · exact absurd hcalv (by simp [h])
  · exact .inr ⟨_, h⟩
  · exact .inl ⟨_, _, h⟩
  · obtain ⟨st, u, hu, -⟩ := tickAfterSample_returns { (readData s).2 with comp := c }
    exact .inl ⟨st, u, h.trans hu⟩

theorem opTickseq_port (s : State) : (opTickseq s).2.port = s.port :=
  (opTickseq_effects s).leaves (·.port) fun hk he => by
    cases he with
    | tick | status | fatal => simp [tickKinds] at hk
    | _ => rfl

/-- As no fatal error is taken, a command that ends as TICKSEQ does ends alike under every operation code, and of the port it
changes `LAST` at most. -/
theorem finish_opTickseq (hcalv : s.comp.calv = true) (op : BitVec 8) :
    finish op (opTickseq s) = finish 0x32 (opTickseq s) ∧
      (finish op (opTickseq s)).port.lasttick = s.port.lasttick ∧ (finish op (opTickseq s)).port.halt = s.port.halt := by
  have hport := opTickseq_port s
  obtain ⟨st, u, h⟩ | ⟨u, h⟩ := opTickseq_of_calv hcalv
  · rw [h] at hport ⊢
    exact ⟨rfl, congrArg (·.lasttick) hport, congrArg (·.halt) hport⟩
  · rw [h] at hport ⊢
    exact ⟨rfl, congrArg (·.lasttick) hport, congrArg (·.halt) hport⟩

end Tick

/-- Settles O53: the failed read is followed by the warning and the response. -/
theorem failedReadSkipsTheTick : Obligations.FailedReadSkipsTheTick := by
  intro s rest hrun hcalv hdata
  refine (runExec_of_ret hrun (opTickseq_of_err hcalv hdata)).trans (congrArg _ ?_)
  simp [afterStatus, emit, readData, put, hdata, logRecord, LogKind.code, Site.code]

/-- Settles O54: the steps after the good read of a full window are written out in `tickAfterSample_of_full`. -/
theorem fullWindowTickStillSteps : Obligations.FullWindowTickStillSteps := by
  intro s bytes rest hrun hcalv hdata hfull
  obtain ⟨lv, cnt, es, htick⟩ :=
    tickAfterSample_of_full (s := { (readData s).2 with comp := s.comp.compensated bytes }) hfull
  refine ⟨_, _, runExec_of_ret hrun (opRdall_of_ok hcalv hdata),
    runExec_of_ret hrun ((opTickseq_of_ok hcalv hdata).trans htick), rfl, rfl, rfl, rfl, rfl, rfl, ?_⟩
  simp [afterStatus]

/-! ### POLL (rule R142) -/

/-- Settles O51: on a new tick POLL is TICKSEQ's pseudocode under its own operation code. -/
theorem pollStepsOncePerNewTick : Obligations.PollStepsOncePerNewTick := by
  refine ⟨by decide, fun s hrun => ⟨fun hcalv => ?_, fun hcalv hseen => ?_, fun hcalv hnew => ?_⟩⟩
  · exact runExec_of_calibrationError hrun (needCalibration_of_not_calv hcalv _)
  · refine runExec_of_ret hrun ?_
    rw [opPoll, needCalibration_of_calv hcalv, if_pos hseen]
  · have hpoll : opPoll s = opTickseq { s with port.lasttick := s.env.tick } := by
      rw [opPoll, needCalibration_of_calv hcalv, if_neg hnew]
    obtain ⟨hop, htick, hhalt⟩ := finish_opTickseq (s := { s with port.lasttick := s.env.tick }) hcalv 0x31
    refine ⟨_, (runExec_of_running hrun 0x31 opPoll).trans (by rw [hpoll]), ?_, htick, hhalt.trans hrun⟩
    exact (runExec_of_running (by exact hrun) 0x32 opTickseq).trans (congrArg _ hop.symm)

end Sys2Proof.Machine
end

section
/-! PROOF. What leaves the CORE during one instruction (43_scheduler.md rule R147). The pseudocode of every operation but the two
that read the transport adds log events and levels alone to the trace; RDALL puts one request before them, so a tick holds one
request and no instruction but INIT more. -/

namespace Sys2Proof.Machine

open Sys2Proof

/-! ### Traces -/

/-- A log event or an indicator level: neither a request nor a response. -/
def Event.isNote (e : Event) : Prop := e.isRequest = false ∧ e.isResponse = false

/-- From `s` to `t` the environment only took notes. -/
def Notes (s t : State) : Prop :=
  ∃ es : List Event, t.env = { s.env with trace := s.env.trace ++ es } ∧ ∀ e ∈ es, e.isNote

/-- From `s` to `t` at most `n` requests left the CORE. -/
def RequestsAtMost (n : ℕ) (s t : State) : Prop :=
  ∃ es : List Event, t.env.trace = s.env.trace ++ es ∧ (es.filter Event.isRequest).length ≤ n

section Traces

variable {s t u : State} {m n : ℕ}

theorem notes_of_env_eq (h : t.env = s.env) : Notes s t := ⟨[], by simp [h], by simp⟩

theorem notes_of_comp (c : Compensation) : Notes s { s with comp := c } := notes_of_env_eq rfl

theorem Notes.trans (hst : Notes s t) (htu : Notes t u) : Notes s u := by
  obtain ⟨es, ht, hes⟩ := hst
  obtain ⟨fs, hu, hfs⟩ := htu
  exact ⟨es ++ fs, by simp [hu, ht], fun e he => (List.mem_append.mp he).elim (hes e) (hfs e)⟩

theorem emit_notes (k : LogKind) (c : Site) (f g h : Word) (s : State) : Notes s (emit k c f g h s) :=
  ⟨[_], rfl, List.forall_mem_singleton.mpr ⟨rfl, rfl⟩⟩

/-- Notes are no requests. -/
theorem Notes.requests (h : Notes s t) : RequestsAtMost 0 s t := by
  obtain ⟨es, ht, hes⟩ := h
  have hnone : es.filter Event.isRequest = [] := List.filter_eq_nil_iff.mpr fun e he => by simp [(hes e he).1]
  exact ⟨es, by rw [ht], by simp [hnone]⟩

theorem RequestsAtMost.trans (hst : RequestsAtMost m s t) (htu : RequestsAtMost n t u) : RequestsAtMost (m + n) s u := by
  obtain ⟨es, ht, hes⟩ := hst
  obtain ⟨fs, hu, hfs⟩ := htu
  exact ⟨es ++ fs, by simp [hu, ht], by simp only [List.filter_append, List.length_append]; omega⟩

theorem RequestsAtMost.mono (hmn : m ≤ n) (h : RequestsAtMost m s t) : RequestsAtMost n s t := by
  obtain ⟨es, ht, hes⟩ := h
  exact ⟨es, ht, hes.trans hmn⟩

theorem respond_requests (st : Status) (d : Word) (s : State) : RequestsAtMost 0 s (respond st d s) :=
  ⟨[_], rfl, Nat.le_refl 0⟩

theorem readData_requests (s : State) : RequestsAtMost 1 s (readData s).2 := ⟨[_], rfl, Nat.le_refl 1⟩

end Traces

/-! ### The frame of a command -/

/-- A composite only takes notes when its sub-step and what follows it do. -/
theorem andThen_notes {s : State} {r : Result} {k : Status → State → Result} (hr : Notes s r.2)
    (hk : ∀ st u, Notes u (k st u).2) : Notes s (andThen r k).2 := by
  obtain ⟨st, u, rfl, h⟩ | ⟨e, u, rfl, h⟩ | ⟨u, rfl, h⟩ := andThen_cases r k
  · rw [h]; exact hr.trans (hk st u)
  · rw [h]; exact hr
  · rw [h]; exact hr

/-- The ending of a command is no request. -/
theorem runExec_requests {op : BitVec 8} {body : State → Result} {s t : State} {n : ℕ}
    (hb : RequestsAtMost n s (body s).2) (h : runExec op body s = .next t) : RequestsAtMost n s t := by
  obtain ⟨-, rfl⟩ | ⟨-, st, u, hu, rfl⟩ | ⟨-, e, u, hu, rfl⟩ | ⟨-, u, hu, rfl⟩ := runExec_cases h
  · exact (respond_requests _ _ s).mono (Nat.zero_le n)
  · rw [hu] at hb; exact hb.trans (respond_requests st 0 { u with port.last := st })
  · rw [hu] at hb; exact hb.trans (respond_requests e.status 0 (takeFatal op e u))
  · rw [hu] at hb; exact hb

/-! ### The operations without a transport read -/

theorem opLdcal_notes (s : State) : Notes s (opLdcal s).2 := by
  obtain ⟨-, h⟩ | ⟨-, h⟩ := opLdcal_cases s
  · rw [h]; exact notes_of_env_eq rfl
  · rw [h]; exact notes_of_env_eq rfl

theorem needCalibration_notes {s : State} {k : State → Result} (hk : Notes s (k s).2) : Notes s (needCalibration s k).2 := by
  cases h : s.comp.calv with
  | true => rw [needCalibration_of_calv h]; exact hk
  | false => rw [needCalibration_of_not_calv h]; exact notes_of_env_eq rfl

theorem opCompt_notes (s : State) : Notes s (opCompt s).2 := needCalibration_notes (notes_of_comp _)

theorem opCompp_notes (s : State) : Notes s (opCompp s).2 := needCalibration_notes (notes_of_comp _)

theorem opComph_notes (s : State) : Notes s (opComph s).2 := needCalibration_notes (notes_of_comp _)

theorem opWpush_notes (s : State) : Notes s (opWpush s).2 := by
  by_cases h : s.win.wlen.val < 60
  · rw [opWpush_of_lt h]; exact notes_of_env_eq rfl
  · rw [opWpush_of_full (by omega)]; exact notes_of_env_eq rfl

theorem opWpop_notes (s : State) : Notes s (opWpop s).2 := by
  by_cases h : s.win.wlen.val = 0
  · rw [opWpop_of_empty h]; exact notes_of_env_eq rfl
  · rw [opWpop_of_ne h]; exact notes_of_env_eq rfl

theorem opWavg_notes (s : State) : Notes s (opWavg s).2 := by
  by_cases h : s.win.wlen.val = 0
  · rw [opWavg_of_empty h]; exact notes_of_env_eq rfl
  · rw [opWavg_of_ne h]; exact notes_of_env_eq rfl

theorem opWupd_notes (s : State) : Notes s (opWupd s).2 := by
  obtain ⟨_, h⟩ | ⟨_, h⟩ | ⟨-, h⟩ := opWupd_cases s
  · rw [h]; exact notes_of_env_eq rfl
  · rw [h]; exact notes_of_env_eq rfl
  · rw [h]; exact emit_notes _ _ _ _ _ s

theorem fsmLog_isNote (cur next : FsmState) (x : Sample) (avgv : Bool) (avg : Word) :
    ∀ e ∈ fsmLog cur next x avgv avg, e.isNote := by
  cases cur with
  | user => simp [fsmLog, transitionEvent, Event.isNote, Event.isRequest, Event.isResponse]
  | normal | emergency =>
    unfold fsmLog
    split_ifs <;> simp [transitionEvent, Event.isNote, Event.isRequest, Event.isResponse]

theorem fsmTransition_notes (s : State) : Notes s (fsmTransition s) := ⟨_, rfl, fsmLog_isNote _ _ _ _ _⟩

theorem indicatorUpdate_notes (cur next : FsmState) (s : State) : Notes s (indicatorUpdate cur next s) := by
  obtain ⟨-, h⟩ | ⟨-, -, v, -, h⟩ | ⟨-, -, h⟩ := indicatorUpdate_cases cur next s
  · rw [h]; exact ⟨[_], rfl, List.forall_mem_singleton.mpr ⟨rfl, rfl⟩⟩
  · rw [h]; exact ⟨[_], rfl, List.forall_mem_singleton.mpr ⟨rfl, rfl⟩⟩
  · rw [h]; exact notes_of_env_eq rfl

theorem opFstep_notes (s : State) : Notes s (opFstep s).2 := by
  rw [opFstep]
  split_ifs
  · exact (fsmTransition_notes s).trans (indicatorUpdate_notes _ _ _)
  · exact fsmTransition_notes s

/-- After the good read of a tick there is no other. -/
theorem tickAfterSample_notes (s : State) : Notes s (tickAfterSample s).2 :=
  andThen_notes (opWupd_notes s) fun _ u => andThen_notes (opWavg_notes u) fun _ _ =>
  andThen_notes (notes_of_env_eq rfl) fun _ u => andThen_notes (opFstep_notes u) fun _ _ => notes_of_env_eq rfl

theorem writeReg_env (s : State) (d : Word) (r : Reg) : (writeReg s d r).env = s.env := by
  cases r <;> rfl

theorem execWr_requests {a : Addr} {d : Word} {s t : State} (h : execWr a d s = .next t) : RequestsAtMost 0 s t := by
  have hwrite : (writeAddr s a d).env = s.env := by
    unfold writeAddr
    split
    · exact writeReg_env s d _
    · rfl
  obtain rfl := Host.Outcome.next.inj h
  split
  · exact respond_requests _ _ s
  · exact (notes_of_env_eq hwrite).requests.trans (respond_requests _ _ _)

/-! ### The operations with a transport read -/

theorem opRdall_requests (s : State) : RequestsAtMost 1 s (opRdall s).2 := by
  obtain ⟨-, h⟩ | ⟨-, -, h⟩ | ⟨-, -, h⟩ | ⟨-, _, _, c, -, h, -⟩ := opRdall_cases s
  · rw [h]; exact (notes_of_env_eq rfl).requests.mono (Nat.zero_le 1)
  · rw [h]; exact readData_requests s
  · rw [h]; exact readData_requests s
  · rw [h]; exact readData_requests s

theorem opTickseq_requests (s : State) : RequestsAtMost 1 s (opTickseq s).2 := by
  obtain ⟨-, h⟩ | ⟨-, -, h⟩ | ⟨-, -, h⟩ | ⟨-, _, _, c, -, -, -, -, h⟩ := opTickseq_cases s
  · rw [h]; exact (notes_of_env_eq rfl).requests.mono (Nat.zero_le 1)
  · rw [h]; exact readData_requests s
  · rw [h]; exact (readData_requests s).trans (emit_notes .warning .warnXport 0 0 0 (readData s).2).requests
  · rw [h]; exact (readData_requests s).trans (tickAfterSample_notes { (readData s).2 with comp := c }).requests

theorem opPoll_requests (s : State) : RequestsAtMost (if s.env.tick = s.port.lasttick then 0 else 1) s (opPoll s).2 := by
  obtain ⟨-, h⟩ | ⟨-, hseen, h⟩ | ⟨-, hnew, h⟩ := opPoll_cases s
  · rw [h]; exact (notes_of_env_eq rfl).requests.mono (Nat.zero_le _)
  · rw [h]; exact (notes_of_env_eq rfl).requests.mono (Nat.zero_le _)
  · rw [h, if_neg hnew]; exact opTickseq_requests { s with port.lasttick := s.env.tick }

/-! ### The statement -/

/-- How many requests an instruction other than INIT can issue in the state `s`. -/
def requestBound (s : State) : Instr → ℕ
  | .rdall | .tickseq => 1
  | .poll => if s.env.tick = s.port.lasttick then 0 else 1
  | _ => 0

theorem requestBound_le_one (s : State) (i : Instr) : requestBound s i ≤ 1 := by
  cases i with
  | poll => rw [requestBound]; split_ifs <;> decide
  | _ => simp [requestBound]

theorem exec_requests {i : Instr} {s t : State} (h : exec i s = .next t) (hi : i ≠ .init) :
    RequestsAtMost (requestBound s i) s t := by
  cases i with
  | init => exact absurd rfl hi
  | nop => exact runExec_requests (notes_of_env_eq (by rfl)).requests h
  | ldcal => exact runExec_requests (opLdcal_notes s).requests h
  | unpack => exact runExec_requests (notes_of_env_eq (by rfl)).requests h
  | compt => exact runExec_requests (opCompt_notes s).requests h
  | compp => exact runExec_requests (opCompp_notes s).requests h
  | comph => exact runExec_requests (opComph_notes s).requests h
  | rdall => exact runExec_requests (opRdall_requests s) h
  | wpush => exact runExec_requests (opWpush_notes s).requests h
  | wpop => exact runExec_requests (opWpop_notes s).requests h
  | wavg => exact runExec_requests (opWavg_notes s).requests h
  | wupd => exact runExec_requests (opWupd_notes s).requests h
  | fstep => exact runExec_requests (opFstep_notes s).requests h
  | econs => exact runExec_requests (notes_of_env_eq (by rfl)).requests h
  | poll => exact runExec_requests (opPoll_requests s) h
  | tickseq => exact runExec_requests (opTickseq_requests s) h
  | wr a d => exact execWr_requests h
  | rd a =>
    obtain rfl := Host.Outcome.next.inj h
    exact respond_requests _ _ s

/-- Settles O55: an instruction stays within its bound, which is 1 or less, and 0 for a POLL that has seen the tick. -/
theorem oneSampleReadPerCommand : Obligations.OneSampleReadPerCommand := by
  intro i s t h hi
  obtain ⟨es, htrace, hcount⟩ := exec_requests h hi
  refine ⟨es, htrace, hcount.trans (requestBound_le_one s i), fun hpoll hseen => ?_⟩
  rw [hpoll, requestBound, if_pos hseen] at hcount
  exact List.eq_nil_of_length_eq_zero (Nat.le_zero.mp hcount)

end Sys2Proof.Machine
end

section
/-! PROOF. What no operation looks at: the edge flag, `LAST` and what has left the CORE. A mask rewrites these three; an operation
that does not see a mask does the same behind it. Setting the edge flag is such a mask, so an edge-set event may come before an
operation or after it (43_scheduler.md rule R146); dropping `LAST` and the responses is another, so a tick is its five operations
in a row but for the responses in between (rules R140, R143). -/

namespace Sys2Proof.Machine

open Sys2Proof Sys2Proof.Rules

/-! ### Masks -/

/-- A rewriting of the edge flag, of `LAST` and of the trace; what is added to the trace other than a response stays visible. -/
structure Mask where
  edge : Bool → Bool
  last : Status → Status
  trace : List Event → List Event
  trace_append : ∀ es fs : List Event, (∀ e ∈ fs, e.isResponse = false) → trace (es ++ fs) = trace es ++ fs

/-- The state behind a mask. -/
def Mask.apply (m : Mask) (s : State) : State :=
  { s with ctl.edge := m.edge s.ctl.edge, port.last := m.last s.port.last, env.trace := m.trace s.env.trace }

/-- The operation ends the same way behind the mask, and leaves the state it leaves without it, masked. -/
def Mask.Unseen (m : Mask) (body : State → Result) : Prop := ∀ s, body (m.apply s) = ((body s).1, m.apply (body s).2)

/-- The edge flag is set. -/
def edgeMask : Mask where
  edge := fun _ => true
  last := id
  trace := id
  trace_append := fun _ _ _ => rfl

theorem edgeMask_apply (s : State) : edgeMask.apply s = edgeEvent s := rfl

/-- `LAST` and the responses are dropped. -/
def answerMask : Mask where
  edge := id
  last := fun _ => .ok
  trace := List.filter fun e => !e.isResponse
  trace_append := fun es fs hfs => by
    have hall : fs.filter (fun e => !e.isResponse) = fs := List.filter_eq_self.mpr fun e he => by simp [hfs e he]
    rw [List.filter_append, hall]

/-- The ending of a command is all that the second mask drops. -/
theorem answerMask_afterStatus (s : State) (st : Status) : answerMask.apply (afterStatus s st) = answerMask.apply s := by
  simp [Mask.apply, answerMask, afterStatus, Event.isResponse]

/-! ### What leaves the CORE -/

section Masked

variable {m : Mask}

theorem Mask.putAll_apply {es : List Event} (h : ∀ e ∈ es, e.isResponse = false) (s : State) :
    putAll es (m.apply s) = m.apply (putAll es s) := by
  simp [putAll, Mask.apply, m.trace_append _ _ h]

theorem Mask.put_apply {e : Event} (h : e.isResponse = false) (s : State) : put e (m.apply s) = m.apply (put e s) :=
  Mask.putAll_apply (es := [e]) (by simpa using h) s

theorem Mask.emit_apply (k : LogKind) (c : Site) (f g h : Word) (s : State) :
    emit k c f g h (m.apply s) = m.apply (emit k c f g h s) := Mask.put_apply rfl s

theorem Mask.readCal1_apply (s : State) : readCal1 (m.apply s) = ((readCal1 s).1, m.apply (readCal1 s).2) :=
  Prod.ext rfl (Mask.put_apply rfl { s with env.cal1 := s.env.cal1.tail })

theorem Mask.readCal2_apply (s : State) : readCal2 (m.apply s) = ((readCal2 s).1, m.apply (readCal2 s).2) :=
  Prod.ext rfl (Mask.put_apply rfl { s with env.cal2 := s.env.cal2.tail })

theorem Mask.readData_apply (s : State) : readData (m.apply s) = ((readData s).1, m.apply (readData s).2) :=
  Prod.ext rfl (Mask.put_apply rfl { s with env.data := s.env.data.tail })

/-! ### The frame of an operation -/

theorem Mask.unseen_ret (st : Status) : m.Unseen (ret st) := fun _ => rfl

theorem Mask.unseen_raise (e : Fatal) : m.Unseen (raise e) := fun _ => rfl

/-- What rewrites the compensation registers from themselves sees no mask. -/
theorem Mask.unseen_compensation (f : Compensation → Compensation) :
    m.Unseen fun s => ret .ok { s with comp := f s.comp } := fun _ => rfl

/-- A composite does not see the mask when its sub-step and what follows it do not. -/
theorem Mask.Unseen.andThen {body : State → Result} {k : Status → State → Result} (hb : m.Unseen body)
    (hk : ∀ st, m.Unseen (k st)) : m.Unseen fun s => andThen (body s) k := by
  intro s
  beta_reduce
  rw [hb s]
  obtain ⟨st, u, hu, h⟩ | ⟨e, u, hu, h⟩ | ⟨u, hu, h⟩ := andThen_cases (body s) k
  · rw [h, hu]; exact hk st u
  · rw [h, hu]; rfl
  · rw [h, hu]; rfl

/-- A case split does not see the mask when its condition and its branches do not. -/
theorem Mask.Unseen.ite {c : State → Prop} [DecidablePred c] {f g : State → Result} (hc : ∀ s, c (m.apply s) = c s)
    (hf : m.Unseen f) (hg : m.Unseen g) : m.Unseen fun s => if c s then f s else g s := by
  intro s
  by_cases h : c s
  · simp only [if_pos h, if_pos ((hc s).mpr h)]; exact hf s
  · simp only [if_neg h, if_neg (mt (hc s).mp h)]; exact hg s

theorem Mask.Unseen.needCalibration {k : State → Result} (hk : m.Unseen k) : m.Unseen fun s => needCalibration s k :=
  .ite (fun _ => rfl) hk (Mask.unseen_raise _)

/-! ### CompensationEngine -/

theorem opLdcal_unseen : m.Unseen opLdcal := .ite (fun _ => rfl) (fun _ => rfl) (Mask.unseen_raise _)

theorem opUnpack_unseen : m.Unseen opUnpack := Mask.unseen_compensation .unpacked

theorem opCompt_unseen : m.Unseen opCompt := (Mask.unseen_compensation .withTemperature).needCalibration

theorem opCompp_unseen : m.Unseen opCompp := (Mask.unseen_compensation .withPressure).needCalibration

theorem opComph_unseen : m.Unseen opComph := (Mask.unseen_compensation .withHumidity).needCalibration

theorem compensateBlock_unseen (bytes : Vector Byte 8) : m.Unseen (compensateBlock bytes) := fun s =>
  (opUnpack_unseen.andThen fun _ => opCompt_unseen.andThen fun _ => opCompp_unseen.andThen fun _ =>
    opComph_unseen.andThen fun _ => Mask.unseen_ret .ok) { s with comp.dbuf := bytes }

theorem opRdall_unseen : m.Unseen opRdall := Mask.Unseen.needCalibration fun s => by
  rw [Mask.readData_apply]
  obtain ⟨a, u⟩ := readData s
  cases a with
  | none => rfl
  | some a =>
    cases a with
    | err => rfl
    | ok bytes => exact compensateBlock_unseen bytes u

theorem initSecondBlock_unseen : m.Unseen initSecondBlock := fun s => by
  rw [initSecondBlock, initSecondBlock, Mask.readCal2_apply]
  obtain ⟨a, u⟩ := readCal2 s
  cases a with
  | none => rfl
  | some a =>
    cases a with
    | err => rfl
    | ok bytes => exact opLdcal_unseen.andThen (fun _ => Mask.unseen_ret .ok) { u with comp.cb2 := bytes, comp.cb2len := 7 }

theorem opInit_unseen : m.Unseen opInit := fun s => by
  rw [opInit, opInit, Mask.readCal1_apply]
  obtain ⟨a, u⟩ := readCal1 s
  cases a with
  | none => rfl
  | some a =>
    cases a with
    | err => rfl
    | ok bytes => exact initSecondBlock_unseen { u with comp.cb1 := bytes, comp.cb1len := 26 }

/-! ### MovingAverageWindow and ControlFSM -/

theorem opWpush_unseen : m.Unseen opWpush := fun s => by
  by_cases h : s.win.wlen.val < 60
  · rw [opWpush_of_lt h]; exact opWpush_of_lt (s := m.apply s) h
  · have hfull : s.win.wlen.val = 60 := by omega
    rw [opWpush_of_full hfull]; exact opWpush_of_full (s := m.apply s) hfull

theorem opWpop_unseen : m.Unseen opWpop := .ite (fun _ => rfl) (Mask.unseen_raise _) fun _ => rfl

theorem opWavg_unseen : m.Unseen opWavg := .ite (fun _ => rfl) (fun _ => rfl) fun _ => rfl

theorem opWupd_unseen : m.Unseen opWupd := opWpush_unseen.andThen fun _ =>
  .ite (fun _ => rfl) (fun s => congrArg (ret .full) (Mask.emit_apply _ _ _ _ _ s))
    (.ite (fun _ => rfl) (opWpop_unseen.andThen fun _ => Mask.unseen_ret .ok) (Mask.unseen_ret .ok))

theorem fsmTransition_apply (s : State) : fsmTransition (m.apply s) = m.apply (fsmTransition s) :=
  Mask.putAll_apply (fun e he => (fsmLog_isNote _ _ _ _ _ e he).2)
    { s with ctl.fsm := fsmNext s.ctl.fsm s.ctl.sw (hot s.comp.sample.temp), ctl.sw := false }

theorem indicatorUpdate_apply (cur next : FsmState) (s : State) :
    indicatorUpdate cur next (m.apply s) = m.apply (indicatorUpdate cur next s) := by
  have hput (v : Byte) : put (.setLevel v) (m.apply { s with ctl.blinkcnt := 0, ctl.level := v }) =
      m.apply (put (.setLevel v) { s with ctl.blinkcnt := 0, ctl.level := v }) := Mask.put_apply rfl _
  unfold indicatorUpdate
  by_cases hstay : next = cur
  · rw [if_pos hstay, if_pos hstay]
    by_cases hhalf : half s.cfg cur ≤ s.ctl.blinkcnt + 1
    · simp only [if_pos hhalf, if_pos (show half (m.apply s).cfg cur ≤ (m.apply s).ctl.blinkcnt + 1 from hhalf)]
      exact hput _
    · simp only [if_neg hhalf, if_neg (show ¬half (m.apply s).cfg cur ≤ (m.apply s).ctl.blinkcnt + 1 from hhalf)]
      rfl
  · rw [if_neg hstay, if_neg hstay]
    exact hput _

theorem opFstep_unseen : m.Unseen opFstep := fun s => by
  rw [opFstep, fsmTransition_apply, opFstep]
  by_cases h : s.cfg.hasIndicator = true
  · rw [if_pos h, if_pos (show (m.apply s).cfg.hasIndicator = true from h)]
    exact congrArg (ret .ok) (indicatorUpdate_apply s.ctl.fsm (fsmTransition s).ctl.fsm (fsmTransition s))
  · rw [if_neg h, if_neg (show ¬(m.apply s).cfg.hasIndicator = true from h)]
    rfl

/-! ### The host port -/

theorem writeReg_apply (s : State) (d : Word) (r : Reg) : writeReg (m.apply s) d r = m.apply (writeReg s d r) := by
  cases r <;> rfl

theorem writeAddr_apply (s : State) (a : Addr) (d : Word) : writeAddr (m.apply s) a d = m.apply (writeAddr s a d) := by
  unfold writeAddr
  cases regAt a with
  | none => rfl
  | some r => exact writeReg_apply s d r

end Masked

/-! ### The edge-set event (rules R62, R146) -/

/-- The ending of an operation does not look at the edge flag. -/
theorem finish_edgeEvent (op : BitVec 8) (e : Ending) (s : State) :
    finish op (e, edgeEvent s) = edgeEvent (finish op (e, s)) := by
  cases e <;> rfl

/-- An edge-set event may come before or after a command whose pseudocode does not see the flag. -/
theorem runExec_edgeEvent {body : State → Result} (hb : edgeMask.Unseen body) (op : BitVec 8) (s : State) :
    ∃ t, runExec op body s = .next t ∧ runExec op body (edgeEvent s) = .next (edgeEvent t) := by
  cases hhalt : s.port.halt with
  | true => exact ⟨_, runExec_of_halt hhalt op body, runExec_of_halt (s := edgeEvent s) hhalt op body⟩
  | false =>
    refine ⟨_, runExec_of_running hhalt op body, (runExec_of_running (s := edgeEvent s) hhalt op body).trans ?_⟩
    exact congrArg _ ((congrArg (finish op) (hb s)).trans (finish_edgeEvent op _ _))

theorem execWr_edgeEvent (a : Addr) (d : Word) (s : State) :
    ∃ t, execWr a d s = .next t ∧ execWr a d (edgeEvent s) = .next (edgeEvent t) := by
  refine ⟨_, rfl, congrArg Host.Outcome.next ?_⟩
  cases hhalt : s.port.halt with
  | true => rw [if_pos rfl, if_pos (show (edgeEvent s).port.halt = true from hhalt)]; rfl
  | false =>
    rw [if_neg Bool.false_ne_true, if_neg (show ¬(edgeEvent s).port.halt = true by simp [hhalt]), ← edgeMask_apply s,
      writeAddr_apply]
    rfl

/-- Settles O47: no operation but those excluded sees the edge flag, and neither does a write to a register. -/
theorem edgeEventCommutesWithOperations : Obligations.EdgeEventCommutesWithOperations := by
  intro i s hecons hpoll htickseq hrd
  cases i with
  | nop => exact runExec_edgeEvent (Mask.unseen_ret .ok) _ s
  | ldcal => exact runExec_edgeEvent opLdcal_unseen _ s
  | unpack => exact runExec_edgeEvent opUnpack_unseen _ s
  | compt => exact runExec_edgeEvent opCompt_unseen _ s
  | compp => exact runExec_edgeEvent opCompp_unseen _ s
  | comph => exact runExec_edgeEvent opComph_unseen _ s
  | rdall => exact runExec_edgeEvent opRdall_unseen _ s
  | wpush => exact runExec_edgeEvent opWpush_unseen _ s
  | wpop => exact runExec_edgeEvent opWpop_unseen _ s
  | wavg => exact runExec_edgeEvent opWavg_unseen _ s
  | wupd => exact runExec_edgeEvent opWupd_unseen _ s
  | fstep => exact runExec_edgeEvent opFstep_unseen _ s
  | econs => exact absurd rfl hecons
  | init => exact runExec_edgeEvent opInit_unseen _ s
  | poll => exact absurd rfl hpoll
  | tickseq => exact absurd rfl htickseq
  | wr a d => exact execWr_edgeEvent a d s
  | rd a => exact absurd rfl (hrd a)

/-! ### A tick as its operations in a row (rules R140, R143) -/

/-- ECONS moves the flag, so it sees a mask of the flag; it sees nothing else of a mask. -/
theorem opEcons_unseen : answerMask.Unseen opEcons := fun _ => rfl

/-- A command given alone does what its pseudocode does as a sub-step, from states that differ in `LAST` and the responses. -/
theorem runExec_of_substep {body : State → Result} (hb : answerMask.Unseen body) {p q u : State} {st : Status}
    (hpq : answerMask.apply p = answerMask.apply q) (hrun : q.port.halt = false) (hq : body q = ret st u) (op : BitVec 8) :
    ∃ v, runExec op body p = .next v ∧ answerMask.apply v = answerMask.apply u ∧ v.port.last = st := by
  have hrunp : p.port.halt = false := (congrArg (·.port.halt) hpq).trans hrun
  have hboth : ((body p).1, answerMask.apply (body p).2) = (Ending.done st, answerMask.apply u) := by
    rw [← hb p, hpq, hb q, hq]
    rfl
  obtain ⟨hending, hstate⟩ := Prod.mk.inj hboth
  have hp : body p = ret st (body p).2 := Prod.ext hending rfl
  exact ⟨_, runExec_of_ret hrunp hp, (answerMask_afterStatus _ st).trans hstate, rfl⟩

/-- The four steps of a tick after its good read all return, and none of them touches the port. -/
theorem tickAfterSample_steps (s : State) :
    ∃ (st : Status) (x y w : State), opWupd s = ret st x ∧ opWavg x = ret .ok y ∧ opFstep (opEcons y).2 = ret .ok w ∧
      tickAfterSample s = ret st w ∧ x.port = s.port ∧ y.port = s.port ∧ w.port = s.port := by
  have hupd : ∃ st x, opWupd s = ret st x ∧ x.port = s.port := by
    obtain ⟨_, h⟩ | ⟨_, h⟩ | ⟨-, h⟩ := opWupd_cases s
    · exact ⟨_, _, h, rfl⟩
    · exact ⟨_, _, h, rfl⟩
    · exact ⟨_, _, h, rfl⟩
  obtain ⟨st, x, hx, hxport⟩ := hupd
  have havg : ∃ y, opWavg x = ret .ok y ∧ y.port = x.port := by
    by_cases h : x.win.wlen.val = 0
    · exact ⟨_, opWavg_of_empty h, rfl⟩
    · exact ⟨_, opWavg_of_ne h, rfl⟩
  obtain ⟨y, hy, hyport⟩ := havg
  obtain ⟨lv, cnt, es, hw⟩ := opFstep_spec (opEcons y).2
  refine ⟨st, x, y, _, hx, hy, hw, ?_, hxport, hyport.trans hxport, hyport.trans hxport⟩
  rw [tickAfterSample, hx, andThen_ret, hy, andThen_ret, opEcons, andThen_ret]
  exact congrArg (andThen · fun _ u => ret st u) hw

/-- The four commands given in a row, the first after a response, leave the state of the tick but for `LAST` and the responses. -/
theorem tickAfterSample_in_a_row {q : State} (hrun : q.port.halt = false) :
    ∃ (st : Status) (w b c d e : State), tickAfterSample q = ret st w ∧ w.port = q.port ∧ Notes q w ∧
      exec .wupd (afterStatus q .ok) = .next b ∧ b.port.last = st ∧ exec .wavg b = .next c ∧ exec .econs c = .next d ∧
      exec .fstep d = .next e ∧ answerMask.apply e = answerMask.apply w := by
  obtain ⟨st, x, y, w, hx, hy, hw, htick, hxport, hyport, hwport⟩ := tickAfterSample_steps q
  have hnotes : Notes q (ret st w).2 := htick ▸ tickAfterSample_notes q
  have hxrun : x.port.halt = false := hxport ▸ hrun
  have hyrun : y.port.halt = false := hyport ▸ hrun
  obtain ⟨b, hb, hbx, hlast⟩ := runExec_of_substep opWupd_unseen (answerMask_afterStatus q .ok) hrun hx 0x13
  obtain ⟨c, hc, hcy, -⟩ := runExec_of_substep opWavg_unseen hbx hxrun hy 0x12
  obtain ⟨d, hd, hdz, -⟩ := runExec_of_substep opEcons_unseen hcy hyrun rfl 0x21
  obtain ⟨e, he, hew, -⟩ := runExec_of_substep opFstep_unseen hdz hyrun hw 0x20
  exact ⟨st, w, b, c, d, e, htick, hwport, hnotes, hb, hlast, hc, hd, he, hew⟩

/-- Settles O52: each command of the row starts from the state of the tick before its sub-step, but for `LAST` and the
responses, so it leaves the state of the tick after it, but for them. -/
theorem tickseqIsTheFiveOperations : Obligations.TickseqIsTheFiveOperations := by
  intro s bytes rest hrun hcalv hdata
  obtain ⟨st, w, b, c, d, e, htick, hport, hnotes, hb, rfl, hc, hd, he, hew⟩ :=
    tickAfterSample_in_a_row (q := { (readData s).2 with comp := s.comp.compensated bytes }) hrun
  obtain ⟨notes, henv, hnote⟩ : Notes (readData s).2 w := hnotes
  have hsilent : ∀ x ∈ Event.xportRead s.cfg.dataAddr 8 :: notes, x.isResponse = false :=
    List.forall_mem_cons.mpr ⟨rfl, fun x hx => (hnote x hx).2⟩
  have hw : w.env = { s.env with data := rest, trace := s.env.trace ++ .xportRead s.cfg.dataAddr 8 :: notes } :=
    henv.trans (by simp [readData, put, hdata])
  refine ⟨_, b, c, d, e, _, runExec_of_ret hrun (opRdall_of_ok hcalv hdata), hb, hc, hd, he,
    runExec_of_ret hrun ((opTickseq_of_ok hcalv hdata).trans htick), (congrArg (·.cfg) hew).symm,
    (congrArg (·.comp) hew).symm, (congrArg (·.win) hew).symm, (congrArg (·.ctl) hew).symm, ?_,
    .xportRead s.cfg.dataAddr 8 :: notes, ?_, hsilent, ?_⟩
  · exact congrArg (fun p : Port => { p with last := b.port.last }) hport
  · simp [afterStatus, hw]
  · have htrace : answerMask.trace e.env.trace = answerMask.trace w.env.trace := congrArg (·.env.trace) hew
    rw [hw] at htrace
    exact htrace.trans (answerMask.trace_append _ _ hsilent)

end Sys2Proof.Machine
end

section
/-! PROOF. One response word per instruction (30_encoding.md rule R75, 44_host_port.md rule R159, 70_reset_and_hazards.md rule
R210). The pseudocode of an operation neither answers nor sets the flag of a wait; its ending does one or the other. -/

namespace Sys2Proof.Machine

open Sys2Proof

/-! ### Before the answer -/

/-- From `s` to `t` no response left the CORE, and nothing began to wait. -/
def Unanswered (s t : State) : Prop :=
  t.env.stalled = s.env.stalled ∧
    ∃ es : List Event, t.env.trace = s.env.trace ++ es ∧ ∀ e ∈ es, e.isResponse = false

/-- From `s` the outcome is a next state, after one response that came last, or in a wait after none. -/
def AnsweredOnce (s : State) (o : Host.Outcome State Fault Refusal) : Prop :=
  ∃ (t : State) (es : List Event), o = .next t ∧ (∀ e ∈ es, e.isResponse = false) ∧
    ((t.env.stalled = true ∧ t.env.trace = s.env.trace ++ es) ∨
     (t.env.stalled = false ∧ ∃ rsp, t.env.trace = s.env.trace ++ es ++ [.response rsp]))

section Unanswered

variable {s t u : State}

theorem unanswered_of_env_eq (h : t.env = s.env) : Unanswered s t :=
  ⟨congrArg (·.stalled) h, [], by rw [h, List.append_nil], by simp⟩

/-- Notes are no responses. -/
theorem Notes.unanswered (h : Notes s t) : Unanswered s t := by
  obtain ⟨es, henv, hnote⟩ := h
  exact ⟨by rw [henv], es, by rw [henv], fun e he => (hnote e he).2⟩

theorem Unanswered.trans (hst : Unanswered s t) (htu : Unanswered t u) : Unanswered s u := by
  obtain ⟨hstall, es, htrace, hes⟩ := hst
  obtain ⟨hstall', fs, htrace', hfs⟩ := htu
  exact ⟨hstall'.trans hstall, es ++ fs, by rw [htrace', htrace, List.append_assoc],
    fun e he => (List.mem_append.mp he).elim (hes e) (hfs e)⟩

/-- An unanswered beginning and one response are an answered instruction. -/
theorem Unanswered.answeredOnce (h : Unanswered s t) (hs : s.env.stalled = false) (st : Status) (d : Word) :
    AnsweredOnce s (.next (respond st d t)) := by
  obtain ⟨hstall, es, htrace, hes⟩ := h
  exact ⟨_, es, rfl, hes, .inr ⟨hstall.trans hs, _, congrArg (· ++ _) htrace⟩⟩

end Unanswered

/-! ### The transport reads -/

theorem readCal1_unanswered (s : State) : Unanswered s (readCal1 s).2 :=
  ⟨rfl, [_], rfl, List.forall_mem_singleton.mpr rfl⟩

theorem readCal2_unanswered (s : State) : Unanswered s (readCal2 s).2 :=
  ⟨rfl, [_], rfl, List.forall_mem_singleton.mpr rfl⟩

theorem readData_unanswered (s : State) : Unanswered s (readData s).2 :=
  ⟨rfl, [_], rfl, List.forall_mem_singleton.mpr rfl⟩

theorem opRdall_unanswered (s : State) : Unanswered s (opRdall s).2 := by
  obtain ⟨-, h⟩ | ⟨-, -, h⟩ | ⟨-, -, h⟩ | ⟨-, _, _, c, -, h, -⟩ := opRdall_cases s
  · rw [h]; exact unanswered_of_env_eq rfl
  · rw [h]; exact readData_unanswered s
  · rw [h]; exact readData_unanswered s
  · rw [h]; exact readData_unanswered s

theorem opTickseq_unanswered (s : State) : Unanswered s (opTickseq s).2 := by
  obtain ⟨-, h⟩ | ⟨-, -, h⟩ | ⟨-, -, h⟩ | ⟨-, _, _, c, -, -, -, -, h⟩ := opTickseq_cases s
  · rw [h]; exact unanswered_of_env_eq rfl
  · rw [h]; exact readData_unanswered s
  · rw [h]; exact (readData_unanswered s).trans (emit_notes .warning .warnXport 0 0 0 (readData s).2).unanswered
  · rw [h]; exact (readData_unanswered s).trans (tickAfterSample_notes { (readData s).2 with comp := c }).unanswered

theorem opPoll_unanswered (s : State) : Unanswered s (opPoll s).2 := by
  obtain ⟨-, h⟩ | ⟨-, -, h⟩ | ⟨-, -, h⟩ := opPoll_cases s
  · rw [h]; exact unanswered_of_env_eq rfl
  · rw [h]; exact unanswered_of_env_eq rfl
  · rw [h]; exact opTickseq_unanswered { s with port.lasttick := s.env.tick }

theorem initSecondBlock_unanswered {s : State} (hl : s.comp.cb1len = 26) : Unanswered s (initSecondBlock s).2 := by
  obtain ⟨-, h⟩ | ⟨-, h⟩ | ⟨_, _, -, h⟩ := initSecondBlock_cases hl
  · rw [h]; exact readCal2_unanswered s
  · rw [h]; exact readCal2_unanswered s
  · rw [h]; exact readCal2_unanswered s

theorem opInit_unanswered (s : State) : Unanswered s (opInit s).2 := by
  obtain ⟨-, h⟩ | ⟨-, h⟩ | ⟨b, _, -, h⟩ := opInit_cases s
  · rw [h]; exact readCal1_unanswered s
  · rw [h]; exact readCal1_unanswered s
  · have hstore : Unanswered s { (readCal1 s).2 with comp.cb1 := b, comp.cb1len := 26 } := readCal1_unanswered s
    rw [h]
    exact hstore.trans (initSecondBlock_unanswered rfl)

/-! ### The answer -/

/-- The frame of an EXEC command gives the one answer of it, unless the pseudocode waits for ever. -/
theorem runExec_answeredOnce {body : State → Result} {s : State} (hb : Unanswered s (body s).2)
    (hs : s.env.stalled = false) (op : BitVec 8) : AnsweredOnce s (runExec op body s) := by
  obtain ⟨t, ht⟩ : ∃ t, runExec op body s = .next t := ⟨_, rfl⟩
  rw [ht]
  obtain ⟨-, rfl⟩ | ⟨-, st, u, hu, rfl⟩ | ⟨-, e, u, hu, rfl⟩ | ⟨-, u, hu, rfl⟩ := runExec_cases ht
  · exact (unanswered_of_env_eq rfl).answeredOnce hs _ _
  · rw [hu] at hb; exact Unanswered.answeredOnce (t := { u with port.last := st }) hb hs _ _
  · rw [hu] at hb; exact Unanswered.answeredOnce (t := takeFatal op e u) hb hs _ _
  · rw [hu] at hb
    obtain ⟨-, es, htrace, hes⟩ := hb
    exact ⟨_, es, rfl, hes, .inl ⟨rfl, htrace⟩⟩

theorem writeAddr_env (s : State) (a : Addr) (d : Word) : (writeAddr s a d).env = s.env := by
  unfold writeAddr
  split
  · exact writeReg_env s d _
  · rfl

theorem execWr_answeredOnce {s : State} (hs : s.env.stalled = false) (a : Addr) (d : Word) :
    AnsweredOnce s (execWr a d s) := by
  unfold execWr
  split
  · exact (unanswered_of_env_eq rfl).answeredOnce hs _ _
  · exact (unanswered_of_env_eq (writeAddr_env s a d)).answeredOnce hs _ _

/-- Settles O9: the frame of a command answers once, and what it frames answers never. -/
theorem everyCommandAnsweredOnce : Obligations.EveryCommandAnsweredOnce := by
  intro i s hs
  cases i with
  | nop => exact runExec_answeredOnce (unanswered_of_env_eq (by rfl)) hs _
  | ldcal => exact runExec_answeredOnce (opLdcal_notes s).unanswered hs _
  | unpack => exact runExec_answeredOnce (unanswered_of_env_eq (by rfl)) hs _
  | compt => exact runExec_answeredOnce (opCompt_notes s).unanswered hs _
  | compp => exact runExec_answeredOnce (opCompp_notes s).unanswered hs _
  | comph => exact runExec_answeredOnce (opComph_notes s).unanswered hs _
  | rdall => exact runExec_answeredOnce (opRdall_unanswered s) hs _
  | wpush => exact runExec_answeredOnce (opWpush_notes s).unanswered hs _
  | wpop => exact runExec_answeredOnce (opWpop_notes s).unanswered hs _
  | wavg => exact runExec_answeredOnce (opWavg_notes s).unanswered hs _
  | wupd => exact runExec_answeredOnce (opWupd_notes s).unanswered hs _
  | fstep => exact runExec_answeredOnce (opFstep_notes s).unanswered hs _
  | econs => exact runExec_answeredOnce (unanswered_of_env_eq (by rfl)) hs _
  | init => exact runExec_answeredOnce (opInit_unanswered s) hs _
  | poll => exact runExec_answeredOnce (opPoll_unanswered s) hs _
  | tickseq => exact runExec_answeredOnce (opTickseq_unanswered s) hs _
  | wr a d => exact execWr_answeredOnce hs a d
  | rd a => exact (unanswered_of_env_eq (by rfl)).answeredOnce hs _ _

end Sys2Proof.Machine
end

section
/-! PROOF. A step on a command word (00_scope.md rule R9, 44_host_port.md rule R159), NOP (rule R155), and what a halted CORE
still does (rule R158). -/

namespace Sys2Proof.Machine

open Sys2Proof Sys2Proof.Rules

/-! ### The step on a command word -/

section Step

variable {s : State} {w : CmdWord} {rest : List Input}

theorem step_of_command (hin : s.env.inputs = .command w :: rest) (hs : s.env.stalled = false) :
    step s = commandCycle w { s with env.inputs := rest } := by
  rw [step, nextInput, hin]
  exact if_neg (by simp [hs])

theorem commandCycle_of_error_running {e : Illegal} (hd : decode w = .error e) (hrun : s.port.halt = false) :
    commandCycle w s = .next (afterStatus s .illegalCommand) := by
  rw [commandCycle_of_error hd, illegalCommand_of_running hrun]
  rfl

theorem commandCycle_of_error_halted {e : Illegal} (hd : decode w = .error e) (hhalt : s.port.halt = true) :
    commandCycle w s = .next (respond .illegalCommand 0 s) := by
  rw [commandCycle_of_error hd, illegalCommand_of_halt hhalt]

end Step

/-- Settles O6: the step takes the word from the inputs and runs the command cycle, whose three cases are known. -/
theorem stepRunsDecodedInstruction : Obligations.StepRunsDecodedInstruction := by
  intro s w rest hin hs
  have hstep := step_of_command hin hs
  exact ⟨hstep, fun i hd _ => hstep.trans (commandCycle_of_ok hd _), fun e hd =>
    ⟨fun hrun => hstep.trans (commandCycle_of_error_running hd hrun),
      fun hhalt => hstep.trans (commandCycle_of_error_halted hd hhalt)⟩⟩

/-- A number the decoder accepts is a command word it accepts. -/
theorem decode_of_decodeTableWord {nbits w : ℕ} {i : Instr} (h : decodeTableWord nbits w = some i) :
    decode (tableWord nbits w) = .ok i := by
  rw [decodeTableWord, Option.ite_none_right_eq_some] at h
  obtain ⟨-, hopt⟩ := h
  cases hd : decode (tableWord nbits w) with
  | ok j => rw [hd] at hopt; exact congrArg _ (Option.some.inj hopt)
  | error e => rw [hd] at hopt; exact nomatch hopt

/-- Settles O7: the offered word is the next input, and no operation waits. -/
theorem fetchWordRunsNext : Obligations.FetchWordRunsNext := by
  intro s nbits w i h
  have hstep : step (s.withFetchWord nbits w) = commandCycle (tableWord nbits w) { s with env.stalled := false } :=
    step_of_command (s := offerCommand (tableWord nbits w) s) rfl rfl
  exact hstep.trans (commandCycle_of_ok (decode_of_decodeTableWord h) _)

/-! ### NOP (rule R155) -/

/-- Settles O11: the pseudocode of NOP returns OK with nothing written. -/
theorem nopOnlyClearsLast : Obligations.NopOnlyClearsLast :=
  ⟨by decide, fun _ => ⟨fun hrun => runExec_of_ret hrun rfl, fun hhalt => runExec_of_halt hhalt _ _⟩⟩

/-! ### The halt (rule R158) -/

section Halt

variable {s t : State}

theorem execWr_of_halt (hhalt : s.port.halt = true) (a : Addr) (d : Word) : execWr a d s = .next (refuseHalted s) := by
  rw [execWr, if_pos hhalt]

/-- Of all instructions a halted CORE performs RD alone. -/
theorem exec_of_halt {i : Instr} (hhalt : s.port.halt = true) (hi : ∀ a, i ≠ .rd a) :
    exec i s = .next (refuseHalted s) := by
  cases i with
  | rd a => exact absurd rfl (hi a)
  | wr a d => exact execWr_of_halt hhalt a d
  | _ => exact runExec_of_halt hhalt _ _

/-- Within the invariant the cause of a halt has a fatal code. -/
theorem causeCode_code_of_haltInv (hinv : s.port.HaltInv) (hhalt : s.port.halt = true) :
    s.port.causeCode.code = 2 ∨ s.port.causeCode.code = 4 := by
  obtain ⟨-, hcause⟩ := hinv
  obtain ⟨hcode | hcode, -⟩ := hcause hhalt
  · exact .inl (by rw [hcode]; rfl)
  · exact .inr (by rw [hcode]; rfl)

/-- The edge flag reads back in bit 4 of STATUS. -/
theorem readAddr_status_edge (s : State) : (readAddr s 0x00).getLsbD 4 = s.ctl.edge := by
  obtain ⟨-, -, -, -, hedge, -⟩ := statusWord_flags s
  exact hedge

/-- No input but a reset event ends the halt: no effect of a command does. -/
theorem reset_of_halt_ended (hhalt : s.port.halt = true) (h : step s = .next t) (hrun : t.port.halt = false) :
    ∃ rest, s.env.inputs = .reset :: rest := by
  have hended : t.port.halt ≠ true := by simp [hrun]
  obtain ⟨e, rfl⟩ | ⟨rest, -, rfl⟩ | ⟨rest, hin, -⟩ | ⟨w, rest, E, -, hE, -⟩ := step_cases h
  · exact absurd hhalt hended
  · exact absurd hhalt hended
  · exact ⟨rest, hin⟩
  · exact absurd (hE.keeps (P := fun u => u.port.halt = true) (fun _ he hu => (he.last_kept_of_halt hu).1) hhalt) hended

end Halt

/-- Settles O18, a fact for each sentence of the rule. -/
theorem haltedCoreRefuses : Obligations.HaltedCoreRefuses := by
  intro s hhalt
  exact ⟨fun _ => rfl, fun _ hi => exec_of_halt hhalt hi, fun hinv => causeCode_code_of_haltInv hinv hhalt,
    fun _ _ hd => commandCycle_of_error_halted hd hhalt,
    fun rest hin => ⟨_, edgeEventSetsEdge s rest hin, rfl, readAddr_status_edge _⟩,
    fun rest hin => ⟨_, step_of_reset hin, rfl, rfl⟩,
    fun _ hstep hrun => reset_of_halt_ended hhalt hstep hrun⟩

end Sys2Proof.Machine
end

section
/-! PROOF. The host's writes (44_host_port.md rule R156). An address leads to a register or to none; a register that no rule lets
the host write stays, and the others keep the low bits of the data. -/

namespace Sys2Proof.Machine

open Sys2Proof Sys2Proof.Rules

section Write

variable {s : State}

theorem exec_wr_of_running (hrun : s.port.halt = false) (a : Addr) (d : Word) :
    exec (.wr a d) s = .next (respond .ok 0 (writeAddr s a d)) := by
  rw [exec, execWr, if_neg (by simp [hrun])]

/-- A write to the address where a register stands is a write to the register. -/
theorem writeAddr_addr (s : State) (r : Reg) (d : Word) : writeAddr s r.addr d = writeReg s d r := by
  rw [writeAddr, registerMapIsOneToOne r]

theorem exec_wr_addr (hrun : s.port.halt = false) (r : Reg) (d : Word) :
    exec (.wr r.addr d) s = .next (respond .ok 0 (writeReg s d r)) := by
  rw [exec_wr_of_running hrun, writeAddr_addr]

/-- The read-only registers of the map ignore a write. -/
theorem writeReg_of_not_writable {r : Reg} (h : ¬Writable r.addr.toNat) (s : State) (d : Word) : writeReg s d r = s := by
  cases r with
  | sw | rawP | rawT | rawH | tFine | temp | press | hum | widx | cb1len | cb2len =>
    exact absurd (by simp [Writable, Reg.addr]) h
  | cb1 i | cb2 i | dbuf i => refine absurd ?_ h; simp [Writable, Reg.addr]; omega
  | _ => rfl

/-- At an address that is not host-writable there is a read-only register or none. -/
theorem writeAddr_of_not_writable {a : Addr} (h : ¬Writable a.toNat) (s : State) (d : Word) : writeAddr s a d = s := by
  unfold writeAddr
  split
  next r hr =>
    obtain rfl := addr_of_regAt hr
    exact writeReg_of_not_writable h s d
  next => rfl

end Write

/-- Settles O12: a write at a register's address is a write to that register, and the low bits are the data cut to the
register's width. -/
theorem wrWritesExactlyItsRegister : Obligations.WrWritesExactlyItsRegister := by
  intro s d
  refine ⟨fun hhalt a => execWr_of_halt hhalt a d, fun hrun => ?_⟩
  have hreg := exec_wr_addr hrun (d := d)
  refine ⟨hreg .sw, hreg .rawP, hreg .rawT, hreg .rawH, hreg .tFine, hreg .temp, hreg .press, hreg .hum, hreg .widx,
    hreg .cb1len, hreg .cb2len, fun i => ?_, fun i => ?_, fun i => ?_, fun a ha => ?_⟩
  · rw [BitVec.ofNat_add]; exact hreg (.cb1 i)
  · rw [BitVec.ofNat_add]; exact hreg (.cb2 i)
  · rw [BitVec.ofNat_add]; exact hreg (.dbuf i)
  · rw [exec_wr_of_running hrun, writeAddr_of_not_writable ha]

end Sys2Proof.Machine
end

section
/-! PROOF. The host's reads (10_state.md rules R12, R40, R41, 44_host_port.md rule R157). Extending a register to 32 bits is taking
the low 32 bits of its number, signed or unsigned, and an address is mapped in the table of numbers just when a register
stands there. -/

namespace Sys2Proof.Machine

open Sys2Proof Sys2Proof.Rules

/-! ### Words and their numbers -/

theorem word_eq_ofInt_toNat (x : Word) : x = BitVec.ofInt 32 x.toNat := by
  rw [BitVec.ofInt_natCast, BitVec.ofNat_toNat, BitVec.setWidth_eq]

theorem readU_eq {n : ℕ} (x : BitVec n) : readU x = BitVec.ofInt 32 x.toNat := by
  rw [readU, BitVec.ofInt_natCast, BitVec.ofNat_toNat]

theorem readS_eq {n : ℕ} (x : BitVec n) : readS x = BitVec.ofInt 32 x.toInt := rfl

theorem flagWord_eq (b : Bool) : flagWord b = BitVec.ofInt 32 (bit b) := by
  cases b <;> rfl

/-- Joining two fields is adding their numbers, the upper one shifted. -/
theorem toNat_append_eq {m n : ℕ} (x : BitVec m) (y : BitVec n) : (x ++ y).toNat = x.toNat * 2 ^ n + y.toNat := by
  rw [BitVec.toNat_append, ← Nat.shiftLeft_add_eq_or_of_lt y.isLt, Nat.shiftLeft_eq]

/-- A word is given by its number. -/
theorem word_eq_ofInt_of_toNat {x : Word} {z : ℤ} (h : (x.toNat : ℤ) = z) : x = BitVec.ofInt 32 z :=
  h ▸ word_eq_ofInt_toNat x

/-! ### The packed registers -/

theorem toNat_ofBool_eq_bit (b : Bool) : ((BitVec.ofBool b).toNat : ℤ) = bit b := by
  cases b <;> rfl

theorem statusWord_eq (s : State) : statusWord s = BitVec.ofInt 32 (statusNumber s) := by
  apply word_eq_ofInt_of_toNat
  simp only [statusWord, statusNumber, toNat_append_eq, ← toNat_ofBool_eq_bit, BitVec.ofNat_eq_ofNat, BitVec.toNat_ofNat]
  omega

theorem causeWord_eq (s : State) :
    causeWord s = BitVec.ofInt 32 (256 * s.port.causeOp.toNat + s.port.causeCode.code.toNat) := by
  apply word_eq_ofInt_of_toNat
  simp only [causeWord, toNat_append_eq, BitVec.ofNat_eq_ofNat, BitVec.toNat_ofNat]
  omega

theorem indWord_eq (s : State) : indWord s = BitVec.ofInt 32 (256 * s.ctl.blinkcnt.toNat + s.ctl.level.toNat) := by
  apply word_eq_ofInt_of_toNat
  simp only [indWord, toNat_append_eq, BitVec.ofNat_eq_ofNat, BitVec.toNat_ofNat]
  omega

/-! ### The halves of the sum and the selected slot -/

theorem lowHalf_eq (x : DWord) : x.extractLsb' 0 32 = BitVec.ofInt 32 ((x.toNat % 2 ^ 32 : ℕ) : ℤ) :=
  word_eq_ofInt_of_toNat (by rw [BitVec.extractLsb'_toNat, Nat.shiftRight_zero])

theorem highHalf_eq (x : DWord) : x.extractLsb' 32 32 = BitVec.ofInt 32 ((x.toNat / 2 ^ 32 : ℕ) : ℤ) := by
  apply word_eq_ofInt_of_toNat
  rw [BitVec.extractLsb'_toNat, Nat.shiftRight_eq_div_pow]
  omega

/-- A field of the selected slot, 0 where `WIDX` selects none (rule R26). -/
theorem selectedSlot_eq (w : Window) (f : Sample → Word) :
    ((selectedSlot w).map f).getD 0 = BitVec.ofInt 32 (slotField w f) := by
  unfold selectedSlot slotField
  split_ifs with h
  · rw [Vector.getElem?_eq_getElem h]
    exact word_eq_ofInt_toNat _
  · rw [Vector.getElem?_eq_none (Nat.le_of_not_lt h)]
    rfl

/-! ### The two maps -/

/-- The bytes of the three buffers stand at consecutive addresses. -/
theorem readNumber_cb1 (s : State) (i : Fin 26) : readNumber s (Reg.cb1 i).addr.toNat = s.comp.cb1[i].toNat := by
  have haddr : (Reg.cb1 i).addr.toNat = 0x60 + i := by simp [Reg.addr]; omega
  rw [haddr, readNumber, dif_pos (by omega)]
  simp

theorem readNumber_cb2 (s : State) (i : Fin 7) : readNumber s (Reg.cb2 i).addr.toNat = s.comp.cb2[i].toNat := by
  have haddr : (Reg.cb2 i).addr.toNat = 0x80 + i := by simp [Reg.addr]; omega
  rw [haddr, readNumber, dif_neg (by omega), dif_pos (by omega)]
  simp

theorem readNumber_dbuf (s : State) (i : Fin 8) : readNumber s (Reg.dbuf i).addr.toNat = s.comp.dbuf[i].toNat := by
  have haddr : (Reg.dbuf i).addr.toNat = 0x90 + i := by simp [Reg.addr]; omega
  rw [haddr, readNumber, dif_neg (by omega), dif_neg (by omega), dif_pos (by omega)]
  simp

/-- A register is read as the number the rules give for its address. -/
theorem readReg_eq_readNumber (s : State) (r : Reg) : readReg s r = BitVec.ofInt 32 (readNumber s r.addr.toNat) := by
  cases r with
  | status => exact statusWord_eq s
  | cause => exact causeWord_eq s
  | ind => exact indWord_eq s
  | sw => exact flagWord_eq _
  | lasttick | press | hum | tempF | pressF | humF | avg | popPress | popHum => exact word_eq_ofInt_toNat _
  | tFine | temp | popTemp => exact BitVec.ofInt_toInt.symm
  | whead | wtail | wlen => exact (BitVec.ofInt_natCast 32 _).symm
  | wsumLo => exact lowHalf_eq _
  | wsumHi => exact highHalf_eq _
  | wslotTemp | wslotPress | wslotHum => exact selectedSlot_eq _ _
  | rawP | rawT | rawH | widx | t1 | p1 | h1 | h3 | cb1len | cb2len => exact readU_eq _
  | t2 | t3 | p2 | p3 | p4 | p5 | p6 | p7 | p8 | p9 | h2 | h4 | h5 | h6 => exact readS_eq _
  | cb1 i => rw [readNumber_cb1]; exact readU_eq _
  | cb2 i => rw [readNumber_cb2]; exact readU_eq _
  | dbuf i => rw [readNumber_dbuf]; exact readU_eq _

/-- The two tables list the same addresses. -/
theorem readTable_keys (s : State) : (readTable s).map (·.1) = regTable.map (·.1.toNat) := rfl

/-- Where no register stands the rules give 0 (rule R41). -/
theorem readNumber_of_unmapped {a : Addr} (h : regAt a = none) (s : State) : readNumber s a.toNat = 0 := by
  unfold regAt at h
  split_ifs at h with h1 h2 h3
  have hkey : a.toNat ∉ (readTable s).map (·.1) := by
    rw [readTable_keys]
    intro hmem
    obtain ⟨row, hrow, hnum⟩ := List.mem_map.mp hmem
    have hne := List.find?_eq_none.mp (Option.map_eq_none_iff.mp h) row hrow
    exact hne (beq_iff_eq.mpr (BitVec.eq_of_toNat_eq hnum))
  have hlookup : (readTable s).lookup a.toNat = none :=
    List.lookup_eq_none_iff.mpr fun row hrow => bne_iff_ne.mpr fun heq => hkey (heq ▸ List.mem_map_of_mem hrow)
  rw [readNumber, dif_neg (by omega), dif_neg (by omega), dif_neg (by omega), hlookup]
  rfl

theorem readAddr_eq_readNumber (s : State) (a : Addr) : readAddr s a = BitVec.ofInt 32 (readNumber s a.toNat) := by
  rw [readAddr]
  cases h : regAt a with
  | some r =>
    obtain rfl := addr_of_regAt h
    exact readReg_eq_readNumber s r
  | none => rw [readNumber_of_unmapped h]; rfl

/-- Settles O13: the value read is the one of the register map, and answering it is all that RD does. -/
theorem rdReadsTheRegisterMap : Obligations.RdReadsTheRegisterMap := by
  intro s a
  rw [← readAddr_eq_readNumber]
  rfl

end Sys2Proof.Machine
end

section
/-! PROOF. The fatal halt (10_state.md rule R35, 43_scheduler.md rule R140, 60_exceptions.md rule R168). Each EXEC instruction
runs its pseudocode, the composites included, in one frame with the operation code of the host's word; the pseudocode never
writes the halt flag, so a CORE that is halted afterwards took a fatal error in that frame. -/

namespace Sys2Proof.Machine

open Sys2Proof

/-! ### The pseudocode of an instruction -/

/-- Pseudocode that, however it ends, leaves the halt flag as it was and takes back nothing that has left the CORE. -/
def KeepsHaltAndTrace (body : State → Result) : Prop :=
  ∀ s, (body s).2.port.halt = s.port.halt ∧ s.env.trace <+: (body s).2.env.trace

theorem KeepsHaltAndTrace.of_effects {E : List EffectKind} {body : State → Result} (hE : .fatal ∉ E)
    (he : ∀ s, Effects E s (body s).2) (hc : ∀ s, Changes s (body s).2) : KeepsHaltAndTrace body := fun s =>
  ⟨(he s).leaves (·.port.halt) fun hk hstep => hstep.halt_kept fun hf => hE (hf ▸ hk),
    (hc s).keeps (P := fun u => s.env.trace <+: u.env.trace) (fun hstep hu => hu.trans (change_keeps_cfg_trace hstep).2)
      List.prefix_rfl⟩

/-- Rewriting registers of the CompensationEngine does not halt the CORE. -/
theorem KeepsHaltAndTrace.of_comp {body : State → Result} (h : ∀ s, ∃ c, (body s).2 = { s with comp := c }) :
    KeepsHaltAndTrace body := by
  intro s
  obtain ⟨c, hc⟩ := h s
  rw [hc]
  exact ⟨rfl, List.prefix_rfl⟩

theorem KeepsHaltAndTrace.needCalibration {k : State → Result} (hk : KeepsHaltAndTrace k) :
    KeepsHaltAndTrace fun s => needCalibration s k := by
  intro s
  cases h : s.comp.calv with
  | true => simp only [needCalibration_of_calv h]; exact hk s
  | false => simp only [needCalibration_of_not_calv h]; exact ⟨rfl, List.prefix_rfl⟩

/-- Every instruction but WR and RD is pseudocode in the frame of an EXEC command, under the operation code of its word. -/
theorem exec_eq_runExec_or (i : Instr) :
    (∃ op body, encode i = packWord 0b00 op 0 ∧ exec i = runExec op body ∧ KeepsHaltAndTrace body) ∨
    (∃ a d, i = .wr a d) ∨ ∃ a, i = .rd a := by
  cases i with
  | nop => exact .inl ⟨_, opNop, rfl, rfl, .of_comp fun s => ⟨s.comp, rfl⟩⟩
  | ldcal => exact .inl ⟨_, opLdcal, rfl, rfl, .of_effects (by simp) opLdcal_effects opLdcal_changes⟩
  | unpack => exact .inl ⟨_, opUnpack, rfl, rfl, .of_comp fun _ => ⟨_, rfl⟩⟩
  | compt => exact .inl ⟨_, opCompt, rfl, rfl, (KeepsHaltAndTrace.of_comp fun _ => ⟨_, rfl⟩).needCalibration⟩
  | compp => exact .inl ⟨_, opCompp, rfl, rfl, (KeepsHaltAndTrace.of_comp fun _ => ⟨_, rfl⟩).needCalibration⟩
  | comph => exact .inl ⟨_, opComph, rfl, rfl, (KeepsHaltAndTrace.of_comp fun _ => ⟨_, rfl⟩).needCalibration⟩
  | rdall => exact .inl ⟨_, opRdall, rfl, rfl, .of_effects (by simp) opRdall_effects opRdall_changes⟩
  | wpush => exact .inl ⟨_, opWpush, rfl, rfl, .of_effects (by simp) opWpush_effects opWpush_changes⟩
  | wpop => exact .inl ⟨_, opWpop, rfl, rfl, .of_effects (by simp) opWpop_effects opWpop_changes⟩
  | wavg => exact .inl ⟨_, opWavg, rfl, rfl, .of_effects (by simp) opWavg_effects opWavg_changes⟩
  | wupd => exact .inl ⟨_, opWupd, rfl, rfl, .of_effects (by simp) opWupd_effects opWupd_changes⟩
  | fstep => exact .inl ⟨_, opFstep, rfl, rfl, .of_effects (by simp) opFstep_effects opFstep_changes⟩
  | econs => exact .inl ⟨_, opEcons, rfl, rfl, fun _ => ⟨rfl, List.prefix_rfl⟩⟩
  | init => exact .inl ⟨_, opInit, rfl, rfl, .of_effects (by simp) opInit_effects opInit_changes⟩
  | poll => exact .inl ⟨_, opPoll, rfl, rfl, .of_effects (by simp [tickKinds]) opPoll_effects opPoll_changes⟩
  | tickseq => exact .inl ⟨_, opTickseq, rfl, rfl, .of_effects (by simp [tickKinds]) opTickseq_effects opTickseq_changes⟩
  | wr a d => exact .inr (.inl ⟨a, d, rfl⟩)
  | rd a => exact .inr (.inr ⟨a, rfl⟩)

/-! ### The halt of an instruction -/

/-- Of the four endings of an EXEC command a raised error alone halts a CORE that ran. -/
theorem raise_of_runExec_halts {op : BitVec 8} {body : State → Result} {s t : State} (hb : KeepsHaltAndTrace body)
    (hrun : s.port.halt = false) (h : runExec op body s = .next t) (hhalt : t.port.halt = true) :
    ∃ e u, body s = raise e u ∧ t = respond e.status 0 (takeFatal op e u) := by
  obtain ⟨hkept, -⟩ := hb s
  have hrunning : (body s).2.port.halt ≠ true := by simp [hkept, hrun]
  obtain ⟨hhalted, -⟩ | ⟨-, st, u, hu, rfl⟩ | ⟨-, herr⟩ | ⟨-, u, hu, rfl⟩ := runExec_cases h
  · exact absurd (hrun.symm.trans hhalted) (by decide)
  · rw [hu] at hrunning; exact absurd hhalt hrunning
  · exact herr
  · rw [hu] at hrunning; exact absurd hhalt hrunning

/-- WR and RD do not halt the CORE. -/
theorem exec_transaction_halt_kept {i : Instr} {s t : State} (hi : (∃ a d, i = .wr a d) ∨ ∃ a, i = .rd a)
    (h : exec i s = .next t) : t.port.halt = s.port.halt :=
  (exec_effects h).leaves (·.port.halt) fun hk he =>
    he.halt_kept fun hf => (ending_not_mem_footprint hi).2 (hf ▸ hk)

/-- Settles O19: the error was raised in the frame of the host's own operation, and taking it writes the operation code and
the error's code before the response goes out. -/
theorem fatalErrorRecordsItsCause : Obligations.FatalErrorRecordsItsCause := by
  intro i s t hrun h hhalt
  obtain ⟨op, body, hop, hexec, hb⟩ | hi := exec_eq_runExec_or i
  · obtain ⟨e, u, hu, rfl⟩ := raise_of_runExec_halts hb hrun (hexec ▸ h) hhalt
    obtain ⟨-, htrace⟩ := hb s
    rw [hu] at htrace
    obtain ⟨es, hes⟩ : s.env.trace <+: u.env.trace := htrace
    exact ⟨by simp [hop], fatal_status_cases e, rfl, es, by simp [hes]⟩
  · exact absurd (hrun.symm.trans ((exec_transaction_halt_kept hi h).symm.trans hhalt)) (by decide)

end Sys2Proof.Machine
end

section
/-! PROOF. The wait for the transport (20_memory.md rule R52, 70_reset_and_hazards.md rule R210). An unanswered read takes nothing
from the transport: the request leaves and the operation stops there. No input but a reset event clears the flag of the wait. -/

namespace Sys2Proof.Machine

open Sys2Proof

/-! ### An unanswered read -/

section Unanswered

variable {s : State}

theorem runExec_of_stall {t : State} {op : BitVec 8} {body : State → Result} (hrun : s.port.halt = false)
    (hbody : body s = stall t) : runExec op body s = .next { t with env.stalled := true } := by
  rw [runExec_of_running hrun, hbody, finish_stall]

/-- The request leaves, and nothing is taken. -/
theorem readCal1_snd_of_nil (h : s.env.cal1 = []) : (readCal1 s).2 = put (.xportRead s.cfg.cal1Addr 26) s := by
  have htail : s.env.cal1.tail = s.env.cal1 := by rw [h, List.tail_nil]
  rw [readCal1, htail]

theorem readCal2_snd_of_nil (h : s.env.cal2 = []) : (readCal2 s).2 = put (.xportRead s.cfg.cal2Addr 7) s := by
  have htail : s.env.cal2.tail = s.env.cal2 := by rw [h, List.tail_nil]
  rw [readCal2, htail]

theorem readData_snd_of_nil (h : s.env.data = []) : (readData s).2 = put (.xportRead s.cfg.dataAddr 8) s := by
  have htail : s.env.data.tail = s.env.data := by rw [h, List.tail_nil]
  rw [readData, htail]

theorem opRdall_of_nil (hcalv : s.comp.calv = true) (hdata : s.env.data = []) :
    opRdall s = stall (put (.xportRead s.cfg.dataAddr 8) s) := by
  rw [opRdall, needCalibration_of_calv hcalv, readData_of_nil hdata, readData_snd_of_nil hdata]

/-- The read of TICKSEQ is that of RDALL, so it waits as RDALL does. -/
theorem opTickseq_of_nil (hcalv : s.comp.calv = true) (hdata : s.env.data = []) :
    opTickseq s = stall (put (.xportRead s.cfg.dataAddr 8) s) := by
  rw [opTickseq, opRdall_of_nil hcalv hdata, andThen_stall]

/-- On a new tick POLL records it before it waits. -/
theorem opPoll_of_nil (hcalv : s.comp.calv = true) (hdata : s.env.data = []) (hnew : s.env.tick ≠ s.port.lasttick) :
    opPoll s = stall (put (.xportRead s.cfg.dataAddr 8) { s with port.lasttick := s.env.tick }) := by
  rw [opPoll, needCalibration_of_calv hcalv, if_neg hnew]
  exact opTickseq_of_nil hcalv hdata

theorem opInit_of_nil (h : s.env.cal1 = []) : opInit s = stall (put (.xportRead s.cfg.cal1Addr 26) s) := by
  rw [opInit, readCal1_of_nil h, readCal1_snd_of_nil h]

theorem initSecondBlock_of_nil (h : s.env.cal2 = []) :
    initSecondBlock s = stall (put (.xportRead s.cfg.cal2Addr 7) s) := by
  rw [initSecondBlock, readCal2_of_nil h, readCal2_snd_of_nil h]

end Unanswered

/-! ### The instructions that wait -/

section Waiting

variable {s : State}

theorem exec_rdall_of_nil (hrun : s.port.halt = false) (hcalv : s.comp.calv = true) (hdata : s.env.data = []) :
    exec .rdall s = .next { put (.xportRead s.cfg.dataAddr 8) s with env.stalled := true } :=
  runExec_of_stall hrun (opRdall_of_nil hcalv hdata)

theorem exec_tickseq_of_nil (hrun : s.port.halt = false) (hcalv : s.comp.calv = true) (hdata : s.env.data = []) :
    exec .tickseq s = exec .rdall s :=
  (runExec_of_stall hrun (opTickseq_of_nil hcalv hdata)).trans (exec_rdall_of_nil hrun hcalv hdata).symm

theorem exec_poll_of_nil (hrun : s.port.halt = false) (hcalv : s.comp.calv = true) (hdata : s.env.data = [])
    (hnew : s.env.tick ≠ s.port.lasttick) :
    exec .poll s = exec .rdall { s with port.lasttick := s.env.tick } :=
  (runExec_of_stall hrun (opPoll_of_nil hcalv hdata hnew)).trans
    (exec_rdall_of_nil (s := { s with port.lasttick := s.env.tick }) hrun hcalv hdata).symm

theorem exec_init_of_nil (hrun : s.port.halt = false) (h : s.env.cal1 = []) :
    exec .init s = .next { put (.xportRead s.cfg.cal1Addr 26) s with env.stalled := true } :=
  runExec_of_stall hrun (opInit_of_nil h)

/-- INIT whose second read is unanswered waits with the first block stored. -/
theorem exec_init_of_second_nil {b1 : Vector Byte 26} {r1 : List (Answer 26)} (hrun : s.port.halt = false)
    (h1 : s.env.cal1 = .ok b1 :: r1) (h2 : s.env.cal2 = []) :
    exec .init s = .next { s with
      comp := { s.comp with cb1 := b1, cb1len := 26 }
      env := { s.env with
        cal1 := r1
        stalled := true
        trace := s.env.trace ++ [.xportRead s.cfg.cal1Addr 26, .xportRead s.cfg.cal2Addr 7] } } := by
  refine (runExec_of_stall hrun ((opInit_of_ok h1).trans (initSecondBlock_of_nil (by exact h2)))).trans (congrArg _ ?_)
  simp [readCal1, put, h1]

end Waiting

/-! ### The wait -/

section Wait

variable {s t : State}

theorem step_of_command_waiting {w : CmdWord} {rest : List Input} (hwait : s.env.stalled = true)
    (hin : s.env.inputs = .command w :: rest) : step s = .next { s with env.inputs := rest } := by
  rw [step, nextInput, hin]
  exact if_pos hwait

theorem acceptInput_stalled_kept {inp : Input} (hwait : s.env.stalled = true) (hne : inp ≠ .reset)
    (h : acceptInput inp s = .next t) : t.env.stalled = true := by
  cases inp with
  | command w =>
    rw [acceptInput, if_pos hwait] at h
    obtain rfl := Host.Outcome.next.inj h
    exact hwait
  | reset => exact absurd rfl hne
  | edge | tick v | answerCal1 a | answerCal2 a | answerData a =>
    obtain rfl := Host.Outcome.next.inj h
    exact hwait

theorem reset_of_wait_ended (hwait : s.env.stalled = true) (h : step s = .next t) (hended : t.env.stalled = false) :
    ∃ rest, s.env.inputs = .reset :: rest := by
  obtain ⟨-, hidle⟩ | ⟨inp, rest, hin, hn⟩ := nextInput_cases s
  · obtain rfl := Host.Outcome.next.inj (hidle.symm.trans h)
    exact absurd hwait (by simp [hended])
  · by_cases hreset : inp = .reset
    · exact ⟨rest, hreset ▸ hin⟩
    · have hkept : t.env.stalled = true :=
        acceptInput_stalled_kept (s := { s with env.inputs := rest }) hwait hreset (hn.symm.trans h)
      exact absurd hkept (by simp [hended])

end Wait

/-- Settles O56, a fact for each of the five waits, and three for how a wait goes on and ends. -/
theorem unansweredReadWaitsForReset : Obligations.UnansweredReadWaitsForReset :=
  ⟨fun _ hrun hcalv hdata => ⟨exec_rdall_of_nil hrun hcalv hdata, exec_tickseq_of_nil hrun hcalv hdata,
      exec_poll_of_nil hrun hcalv hdata⟩,
    fun _ hrun h => exec_init_of_nil hrun h,
    fun _ _ _ hrun h1 h2 => exec_init_of_second_nil hrun h1 h2,
    fun _ _ _ hwait hin => step_of_command_waiting hwait hin,
    fun _ _ hwait h hended => reset_of_wait_ended hwait h hended,
    fun _ _ hin => ⟨_, step_of_reset hin, resetEvent_env_stalled _⟩⟩

end Sys2Proof.Machine
end
